-- ==== Sys2Proof/Word.lean ====
section
/-! DEFINITION. The two widths the spec moves values in: the 8-bit byte of the Sector Cache and of the mask
(10_state R20, R21), and the 32-bit event word (30_encoding R60). Bit 0 is the least significant bit (00_scope R8). -/

namespace Sys2Proof

/-- An 8-bit value: a cache byte, the bit mask, the STATUS register. -/
abbrev Byte := BitVec 8

/-- A 32-bit value: an event word, or the value RDSTAT returns. -/
abbrev Word := BitVec 32

end Sys2Proof
end

