-- ==== Sys2Proof/Config.lean ====
section
/-! DEFINITION. The parameters of 00_scope R7, all OPEN, and the free value `draw()` of 20_memory R47.
Every constant here that the spec leaves open is opaque: no proof can see a value of it. -/

namespace Sys2Proof

/-- The parameters of 00_scope R7 that a rule of the machine reads (log 3). -/
structure Params where
  /-- `EMIT_BYTES`: the number of cache bytes emitted per sector, from byte 0. -/
  emitBytes : Nat
  /-- `CACHE_BYTES`: the size of the Sector Cache in bytes. -/
  cacheBytes : Nat
  /-- `MAY_MISS_TICKS`: whether a window may pass with no tick serviced (event MISS admitted). -/
  mayMissTicks : Bool
  deriving DecidableEq, Repr

/-- The bounds 00_scope R7 sets on the sizes: `1 <= EMIT_BYTES <= CACHE_BYTES <= 65536` (D13). -/
abbrev Params.Ok (p : Params) : Prop :=
  1 ≤ p.emitBytes ∧ p.emitBytes ≤ p.cacheBytes ∧ p.cacheBytes ≤ 65536

/-- `OUTPUT_FORM` of 00_scope R7: what a transition is electrically. No rule of the machine depends on it (D11). -/
inductive OutputForm where
  | levelToggle
  /-- A pulse of some width. -/
  | pulse (width : Nat)
  deriving DecidableEq, Repr, Inhabited

/-- `FMT_CLEAR_POINT` of 00_scope R7: when the environment issues CLRFMT. The block admits every schedule of it (D17). -/
inductive FmtClearPoint where
  | never
  | endOfWriteBurst
  | otherControllerPoint
  deriving DecidableEq, Repr, Inhabited

/-- Open number from which `EMIT_BYTES` of the machine after reset is made (D13). -/
opaque Config.emitChoice : Nat

/-- Open number from which `CACHE_BYTES` of the machine after reset is made (D13). -/
opaque Config.spareChoice : Nat

/-- `MAY_MISS_TICKS` of the machine after reset, open (D9). -/
opaque Config.mayMissTicks : Bool

/-- `TICK_PERIOD`, open, in a time unit the spec does not name. No rule of the machine depends on it (D12). -/
opaque Config.tickPeriod : Nat

/-- `PULSE_OFFSET`, open, in the same unit as `TICK_PERIOD`. No rule of the machine depends on it (D12). -/
opaque Config.pulseOffset : Nat

/-- `OUTPUT_FORM`, open (D11). -/
opaque Config.outputForm : OutputForm

/-- `TICKS_DURING_WRITE`, open: the machine's rules hold for both values (D10). -/
opaque Config.ticksDuringWrite : Bool

/-- `FMT_CLEAR_POINT`, open: the block admits every schedule of CLRFMT (D17). -/
opaque Config.fmtClearPoint : FmtClearPoint

/-- The free value `draw()` (20_memory R47): the n-th draw of a run is any 8-bit value, under no law (log 5). -/
opaque Config.draw : Nat → Byte

/-- `EMIT_BYTES` of the machine after reset: every value 00_scope R7 admits is possible, and no other. -/
def Config.emitBytes : Nat := Config.emitChoice % 65536 + 1

/-- `CACHE_BYTES` of the machine after reset: `EMIT_BYTES` and any number of further bytes that 65536 leaves room for. -/
def Config.cacheBytes : Nat :=
  Config.spareChoice % (65536 - Config.emitChoice % 65536) + Config.emitBytes

/-- The parameters of the machine after reset (log 3). -/
def Config.params : Params :=
  { emitBytes := Config.emitBytes
    cacheBytes := Config.cacheBytes
    mayMissTicks := Config.mayMissTicks }

end Sys2Proof
end

