-- ==== Sys2Proof/Syntax.lean ====
section
/-! DEFINITION. The events of the block: one constructor per row of spec/opcode_table.json (30_encoding R61, 41_control R117). -/

namespace Sys2Proof

/-- One event. Only CWRITE has operands (30_encoding R64). -/
inductive Instr where
  /-- TICK: one run of the generator's interrupt handler (40_tick R75). -/
  | tick
  /-- MISS: a window that passes with no tick serviced (40_tick R91). -/
  | miss
  /-- ENTER: the Controller's entry into ACTIVE (41_control R95). -/
  | enter
  /-- REARM: the Controller's supply of a new sector (41_control R98). -/
  | rearm
  /-- EXIT: the Controller's exit from ACTIVE (41_control R101). -/
  | exit
  /-- SETFMT: the Write Field Decoder's "set formatting-in-progress" (41_control R104). -/
  | setfmt
  /-- CLRFMT: clears the formatting hold (41_control R106). -/
  | clrfmt
  /-- RDSTAT: the Controller's poll of the generator (41_control R108). -/
  | rdstat
  /-- CWRITE: byte `v` lands at Sector Cache index `a` (41_control R110). -/
  | cwrite (a : BitVec 16) (v : Byte)
  deriving DecidableEq, Repr

end Sys2Proof
end

