-- ==== Sys2Proof/WellFormed.lean ====
section
/-! DEFINITION. The reasons an event is refused (60_exceptions R123) and the checks on a decoded event that depend on the
machine's parameters (30_encoding R65): the index of a CWRITE, and whether a MISS is admitted. -/

namespace Sys2Proof

/-- The refusal reasons of 60_exceptions R123. -/
inductive RefusalReason where
  /-- `op` in 0x9..0xF; raised by decode (30_encoding R62). -/
  | reservedOp
  /-- `rsv` nonzero, or `addr` or `data` nonzero outside CWRITE; raised by decode (30_encoding R63). -/
  | reservedBits
  /-- `addr >= CACHE_BYTES`; raised by CWRITE (41_control R111). -/
  | cacheIndexOutOfRange
  /-- `MAY_MISS_TICKS = false`; raised by MISS (40_tick R91). -/
  | missNotAdmitted
  deriving DecidableEq, Repr

/-- The code column of 60_exceptions R123. -/
def RefusalReason.code : RefusalReason → Nat
  | .reservedOp => 1
  | .reservedBits => 2
  | .cacheIndexOutOfRange => 3
  | .missNotAdmitted => 4

/-- Why the machine with parameters `p` refuses the event, if it does (30_encoding R65, 60_exceptions R123). -/
def Instr.rejection (p : Params) : Instr → Option RefusalReason
  | .miss => if p.mayMissTicks then none else some .missNotAdmitted
  | .cwrite a _ => if a.toNat < p.cacheBytes then none else some .cacheIndexOutOfRange
  | .tick => none
  | .enter => none
  | .rearm => none
  | .exit => none
  | .setfmt => none
  | .clrfmt => none
  | .rdstat => none

/-- The event is admitted by the machine with parameters `p`: an "admitted event" of 10_state R35. -/
def Instr.admitted (p : Params) (i : Instr) : Bool := (i.rejection p).isNone

end Sys2Proof
end

