-- ==== Sys2Proof/Machine/State.lean ====
section
/-! DEFINITION. The state of the block (10_state R20), the observation it leaves (00_scope R13), and the values after power-on
reset (10_state R37, 70_reset_and_hazards R140). -/

namespace Sys2Proof.Machine

/-- The Sector Cache (20_memory R42, R43): the valid cells, indices strictly rising. An index that is not listed is `invalid`
(10_state R31), which is no byte, so no entry can equal what an unlisted index reads as. -/
abbrev Memory := List Host.Cell

/-- The fault reasons of 60_exceptions R121, recorded in the state. -/
inductive FaultReason where
  /-- An active TICK found `cursor >= EMIT_BYTES` (40_tick R80). -/
  | cursorOutOfRange
  deriving DecidableEq, Repr

/-- The code column of 60_exceptions R121. -/
def FaultReason.code : FaultReason → Nat
  | .cursorOutOfRange => 1

/-- Why a step stops the model itself. The spec's own fault is a mark in the state, not one of these (log 6). -/
inductive Fault where
  /-- MemRead or MemWrite at an index the cache does not have (20_memory R45, R46 give a meaning below `CACHE_BYTES` only).
  Raised by `memRead` and `memWrite`. Safe: the run stops. No event raises it while `EMIT_BYTES <= CACHE_BYTES` (log 25). -/
  | absentCell (index : Nat)
  deriving DecidableEq, Repr

/-- Why a step has no meaning. The spec's own refusals are a mark in the state, not one of these (log 6). -/
inductive Refusal where
  /-- An event with no meaning yet. Raised by no arm of `exec`. Safe: the run stops. -/
  | notModelled (mnemonic : String)
  deriving DecidableEq, Repr

/-- The block's state. The first seven fields after `params` are those of 10_state R20. -/
structure State where
  /-- The model's own: the parameters the machine was built with (00_scope R7); no step changes them (log 3). -/
  params : Params
  /-- The one-hot bit mask (10_state R21). -/
  mask : Byte
  /-- The byte cursor, 0..`EMIT_BYTES` (10_state R22). -/
  cursor : Nat
  /-- `sector_ready` (10_state R26). -/
  sectorReady : Bool
  /-- `formatting` (10_state R27). -/
  formatting : Bool
  /-- The Sector Cache (10_state R31). -/
  cache : Memory
  /-- The sticky fault mark (60_exceptions R121, R122). -/
  fault : Option FaultReason
  /-- The sticky refusal mark (60_exceptions R123). -/
  refused : Option RefusalReason
  /-- The output trace, oldest window first (30_encoding R70); observation, not state of the spec's (log 4). -/
  trace : List Bool
  /-- The values RDSTAT returned, oldest first (30_encoding R71); observation, not state of the spec's (log 4). -/
  results : List Word
  /-- The model's own: how many `draw()` values have been taken (20_memory R47, log 5). -/
  draws : Nat
  /-- The model's own: the event words delivered to the block and not yet served, oldest first (20_memory R53, log 1). -/
  events : List Word
  deriving DecidableEq, Repr

/-- Power-on reset (10_state R37, 70_reset_and_hazards R140). The parameters are open; no event is waiting (logs 1, 3, 7). -/
def State.reset : State :=
  { params := Config.params
    mask := 0x80#8
    cursor := 0
    sectorReady := false
    formatting := false
    cache := []
    fault := none
    refused := none
    trace := []
    results := []
    draws := 0
    events := [] }

end Sys2Proof.Machine
end

