-- ==== Sys2Proof/Machine/Flags.lean ====
section
/-! DEFINITION. Every condition and view the spec computes from the flags: the idle gate, exhaustion, the STATUS register, and
the sticky marks. -/

namespace Sys2Proof.Machine

/-- The condition of an idle tick (40_tick R77): `sector_ready = false` or `formatting = true`. -/
def State.idle (s : State) : Bool := !s.sectorReady || s.formatting

/-- The condition of an active tick (40_tick R79). -/
def State.active (s : State) : Bool := s.sectorReady && !s.formatting

/-- A fault or a refusal is recorded: the state is quiescent (60_exceptions R122, R123). -/
def State.halted (s : State) : Bool := s.fault.isSome || s.refused.isSome

/-- The STATUS register (10_state R29): bit 0 `SR`, bit 1 `FMT`, bits 7:2 hardwired 0. -/
def State.status (s : State) : Byte :=
  (if s.formatting then 0x02#8 else 0x00#8) ||| (if s.sectorReady then 0x01#8 else 0x00#8)

/-- STATUS zero-extended to 32 bits, the value RDSTAT returns (30_encoding R71). -/
def State.statusWord (s : State) : Word := s.status.setWidth 32

/-- The Controller's test "Generator signaled sector-exhausted", `STATUS[0] == 0` (10_state R29). -/
def State.signalsExhausted (s : State) : Bool := !s.status.getLsbD 0

end Sys2Proof.Machine
end

