-- ==== Sys2Proof/Machine/Ops.lean ====
section
/-! DEFINITION. The primitives of 00_scope R9 as operations on the state: emitting a window, returning a value, recording a fault
or a refusal, reading and writing the Sector Cache, moving the stream position. -/

namespace Sys2Proof.Machine

/-- `emit(t)`: append one window symbol to the output trace (30_encoding R70). -/
def State.emit (t : Bool) (s : State) : State := { s with trace := s.trace ++ [t] }

/-- `return v`: hand `v` to the agent that issued the event (30_encoding R71). -/
def State.answer (v : Word) (s : State) : State := { s with results := s.results ++ [v] }

/-- `raise Fault(r)`: record the fault reason and change nothing else (60_exceptions R121). -/
def State.raise (r : FaultReason) (s : State) : State := { s with fault := some r }

/-- `refuse(r)`: record the refusal reason and change nothing else (60_exceptions R123). -/
def State.refuse (r : RefusalReason) (s : State) : State := { s with refused := some r }

/-- `s.mask <- m`. -/
def State.setMask (m : Byte) (s : State) : State := { s with mask := m }

/-- `s.cursor <- c`. -/
def State.setCursor (c : Nat) (s : State) : State := { s with cursor := c }

/-- `s.sector_ready <- b`. -/
def State.setSectorReady (b : Bool) (s : State) : State := { s with sectorReady := b }

/-- `s.formatting <- b`. -/
def State.setFormatting (b : Bool) (s : State) : State := { s with formatting := b }

/-- Replace the contents of the Sector Cache. -/
def State.setCache (m : Memory) (s : State) : State := { s with cache := m }

/-- Count one `draw()` (20_memory R47). -/
def State.countDraw (s : State) : State := { s with draws := s.draws + 1 }

/-- Put back the list of waiting event words. -/
def State.setEvents (es : List Word) (s : State) : State := { s with events := es }

/-- The canonical form of the Sector Cache: indices strictly rising. -/
def Memory.wf (m : Memory) : Bool := decide ((m.map Prod.fst).Pairwise (· < ·))

/-- Every valid cell lies in a cache of `n` bytes (20_memory R43). -/
def Memory.within (n : Nat) (m : Memory) : Bool := m.all fun c => decide (c.1 < n)

/-- The valid byte at index `a`, or none where the cell is `invalid` (10_state R31). -/
def Memory.read : Memory → Nat → Option Byte
  | [], _ => none
  | c :: rest, a => if c.1 = a then some c.2 else Memory.read rest a

/-- Make the cell at index `a` valid with byte `v`, keeping the indices strictly rising (20_memory R46). -/
def Memory.write : Memory → Nat → Byte → Memory
  | [], a, v => [(a, v)]
  | c :: rest, a, v =>
    if a < c.1 then (a, v) :: c :: rest
    else if a = c.1 then (a, v) :: rest
    else c :: Memory.write rest a v

/-- Mark every cell `invalid` (20_memory R57). -/
def Memory.invalidated : Memory := []

/-- `MemRead(a, 1)` (20_memory R45): the valid byte, or a fresh `draw()` for an invalid cell (R47). -/
def memRead (a : Nat) (s : State) : Except Fault (Byte × State) :=
  if a < s.params.cacheBytes then
    match s.cache.read a with
    | some v => .ok (v, s)
    | none => .ok (Config.draw s.draws, s.countDraw)
  else .error (.absentCell a)

/-- `MemWrite(a, 1, v)` (20_memory R46). -/
def memWrite (a : Nat) (v : Byte) (s : State) : Except Fault State :=
  if a < s.params.cacheBytes then .ok (s.setCache (s.cache.write a v))
  else .error (.absentCell a)

/-- The stream position back at bit 7 of byte 0, the "byte/bit cursor" reset of REARM and EXIT (41_control R98, R101). -/
def State.rewind (s : State) : State := (s.setCursor 0).setMask 0x80#8

/-- What an active tick does after emitting: shift the mask (40_tick R83), or reload it and advance the cursor (R84), and at
`EMIT_BYTES` clear `sector_ready` (R85). -/
def State.advance (s : State) : State :=
  if s.mask = 0x01#8 then
    if s.cursor + 1 = s.params.emitBytes then
      ((s.setMask 0x80#8).setCursor (s.cursor + 1)).setSectorReady false
    else (s.setMask 0x80#8).setCursor (s.cursor + 1)
  else s.setMask (s.mask >>> 1)

/-- One event's body under the sticky marks: in a faulted or refused state an event changes nothing and emits nothing
(60_exceptions R122, R123, R124). -/
def whenLive (s : State) (body : Host.Outcome State Fault Refusal) : Host.Outcome State Fault Refusal :=
  if s.halted then .next s else body

/-- A word that decoding refuses (60_exceptions R123): the mark is set, unless the state is quiescent already. -/
def refuseWord (r : RefusalReason) (s : State) : Host.Outcome State Fault Refusal :=
  whenLive s (.next (s.refuse r))

end Sys2Proof.Machine
end

