-- ==== Sys2Proof/Machine/Control.lean ====
section
/-! DEFINITION. The main loop's events: ENTER, REARM, EXIT, SETFMT, CLRFMT, RDSTAT (41_control). Each is one atomic step
(41_control R93). -/

namespace Sys2Proof.Machine

/-- ENTER (41_control R95). -/
def execEnter (s : State) : Host.Outcome State Fault Refusal :=
  whenLive s (.next ((s.setSectorReady true).setFormatting false))

/-- REARM (41_control R98). -/
def execRearm (s : State) : Host.Outcome State Fault Refusal :=
  whenLive s (.next (s.rewind.setSectorReady true))

/-- EXIT (41_control R101). -/
def execExit (s : State) : Host.Outcome State Fault Refusal :=
  whenLive s (.next (((s.rewind.setSectorReady false).setFormatting false).setCache Memory.invalidated))

/-- SETFMT (41_control R104). -/
def execSetfmt (s : State) : Host.Outcome State Fault Refusal :=
  whenLive s (.next (s.setFormatting true))

/-- CLRFMT (41_control R106). -/
def execClrfmt (s : State) : Host.Outcome State Fault Refusal :=
  whenLive s (.next (s.setFormatting false))

/-- RDSTAT (41_control R108). -/
def execRdstat (s : State) : Host.Outcome State Fault Refusal :=
  whenLive s (.next (s.answer s.statusWord))

end Sys2Proof.Machine
end

