-- ==== Sys2Proof/Machine/Operands.lean ====
section
/-! DEFINITION. The operand forms: CWRITE's direct index (30_encoding R64), and the bit a mask selects (30_encoding R67). -/

namespace Sys2Proof.Machine

/-- The index operand of a CWRITE, `zext_32(w[31:16])`, unsigned (30_encoding R64). -/
def cacheIndex (a : BitVec 16) : Nat := (a.setWidth 32).toNat

/-- The bit a tick emits, `(byte & mask) != 0` (30_encoding R67). -/
def selectBit (b mask : Byte) : Bool := (b &&& mask) != 0x00#8

end Sys2Proof.Machine
end

