-- ==== Sys2Proof/Machine/Storage.lean ====
section
/-! DEFINITION. The storage side's event, CWRITE (41_control R110). -/

namespace Sys2Proof.Machine

/-- One byte lands at an index the cache has. -/
def landByte (a : Nat) (v : Byte) (s : State) : Host.Outcome State Fault Refusal :=
  match memWrite a v s with
  | .error f => .fault f
  | .ok t => .next t

/-- CWRITE (41_control R110); an index outside the cache is refused (R111). -/
def execCwrite (a : BitVec 16) (v : Byte) (s : State) : Host.Outcome State Fault Refusal :=
  whenLive s <|
    if s.params.cacheBytes ≤ cacheIndex a then .next (s.refuse .cacheIndexOutOfRange)
    else landByte (cacheIndex a) v s

end Sys2Proof.Machine
end

