-- ==== Sys2Proof/Machine/Timer.lean ====
section
/-! DEFINITION. The Timer's events, TICK and MISS (40_tick). -/

namespace Sys2Proof.Machine

/-- An active tick that finds a byte to emit: read the current byte afresh (40_tick R81), emit the mask's bit (R82), move the
stream position (R83 to R85). -/
def emitBit (s : State) : Host.Outcome State Fault Refusal :=
  match memRead s.cursor s with
  | .error f => .fault f
  | .ok (b, t) => .next (t.emit (selectBit b t.mask)).advance

/-- TICK (40_tick R75). -/
def execTick (s : State) : Host.Outcome State Fault Refusal :=
  whenLive s <|
    if s.idle then .next (s.emit false)
    else if s.params.emitBytes ≤ s.cursor then .next (s.raise .cursorOutOfRange)
    else emitBit s

/-- MISS (40_tick R91). -/
def execMiss (s : State) : Host.Outcome State Fault Refusal :=
  whenLive s (.next (if s.params.mayMissTicks then s.emit false else s.refuse .missNotAdmitted))

end Sys2Proof.Machine
end

