-- ==== Sys2Proof/Machine/Dispatch.lean ====
section
/-! DEFINITION. One arm per event (30_encoding R61, 41_control R117). -/

namespace Sys2Proof.Machine

def exec (i : Instr) (s : State) : Host.Outcome State Fault Refusal :=
  match i with
  | .tick => Sys2Proof.Machine.execTick s
  | .miss => Sys2Proof.Machine.execMiss s
  | .enter => Sys2Proof.Machine.execEnter s
  | .rearm => Sys2Proof.Machine.execRearm s
  | .exit => Sys2Proof.Machine.execExit s
  | .setfmt => Sys2Proof.Machine.execSetfmt s
  | .clrfmt => Sys2Proof.Machine.execClrfmt s
  | .rdstat => Sys2Proof.Machine.execRdstat s
  | .cwrite a v => Sys2Proof.Machine.execCwrite a v s

end Sys2Proof.Machine
end

