-- ==== Sys2Proof/Decode.lean ====
section
/-! DEFINITION. The event word (30_encoding R60 to R66): its fields, the decoder of R65, and the encoder. Every bit position is
the spec's own choice (D2); the word has no byte order (20_memory R48), so the decoder reads a whole 32-bit word (log 16). -/

namespace Sys2Proof

/-- `op = w[3:0]`, the event code (30_encoding R60). -/
def opField (w : Word) : BitVec 4 := w.extractLsb' 0 4

/-- `rsv = w[7:4]`, reserved (30_encoding R60). -/
def rsvField (w : Word) : BitVec 4 := w.extractLsb' 4 4

/-- `data = w[15:8]`, the byte of a CWRITE (30_encoding R60, R64). -/
def dataField (w : Word) : Byte := w.extractLsb' 8 8

/-- `addr = w[31:16]`, the cache index of a CWRITE (30_encoding R60, R64). -/
def addrField (w : Word) : BitVec 16 := w.extractLsb' 16 16

/-- `w[31:8]`, both operand fields together (30_encoding R65). -/
def operandField (w : Word) : BitVec 24 := w.extractLsb' 8 24

/-- The decoder of 30_encoding R65, its checks in the order written (60_exceptions R124), less the two that need the
machine's parameters, which `decodeFor` adds (log 17). -/
def decode (w : Word) : Except RefusalReason Instr :=
  if 9 ≤ (opField w).toNat then .error .reservedOp
  else if rsvField w ≠ 0#4 then .error .reservedBits
  else if opField w ≠ 8#4 ∧ operandField w ≠ 0#24 then .error .reservedBits
  else
    match (opField w).toNat with
    | 0 => .ok .tick
    | 1 => .ok .miss
    | 2 => .ok .enter
    | 3 => .ok .rearm
    | 4 => .ok .exit
    | 5 => .ok .setfmt
    | 6 => .ok .clrfmt
    | 7 => .ok .rdstat
    | 8 => .ok (.cwrite (addrField w) (dataField w))
    | _ => .error .reservedOp

/-- 30_encoding R65 whole, for the machine with parameters `p`: decoding, then the check of CWRITE's index and of MISS. -/
def decodeFor (p : Params) (w : Word) : Except RefusalReason Instr :=
  match decode w with
  | .error r => .error r
  | .ok i =>
    match i.rejection p with
    | some r => .error r
    | none => .ok i

/-- The event code of 30_encoding R61. -/
def Instr.code : Instr → BitVec 4
  | .tick => 0x0#4
  | .miss => 0x1#4
  | .enter => 0x2#4
  | .rearm => 0x3#4
  | .exit => 0x4#4
  | .setfmt => 0x5#4
  | .clrfmt => 0x6#4
  | .rdstat => 0x7#4
  | .cwrite _ _ => 0x8#4

/-- The `addr` operand; 0 in every event except CWRITE (30_encoding R63). -/
def Instr.addr : Instr → BitVec 16
  | .cwrite a _ => a
  | .tick | .miss | .enter | .rearm | .exit | .setfmt | .clrfmt | .rdstat => 0#16

/-- The `data` operand; 0 in every event except CWRITE (30_encoding R63). -/
def Instr.data : Instr → Byte
  | .cwrite _ v => v
  | .tick | .miss | .enter | .rearm | .exit | .setfmt | .clrfmt | .rdstat => 0#8

/-- The event word of an event: format `E`, fields from the most significant down (30_encoding R60). -/
def encode (i : Instr) : Word := i.addr ++ i.data ++ 0#4 ++ i.code

/-- The event word whose low `nbits` bits are `w`'s and whose other bits are 0. -/
def wordOfBits (nbits w : Nat) : Word := BitVec.ofNat 32 (w % 2 ^ nbits)

/-- What the decoder reads from an opcode-table word (none where it refuses). -/
def decodeTableWord (nbits w : Nat) : Option Instr :=
  match decode (wordOfBits nbits w) with
  | .ok i => some i
  | .error _ => none

end Sys2Proof
end

