-- ==== Sys2Proof/Machine/Fetch.lean ====
section
/-! DEFINITION. How the next event word reaches the block. The block fetches nothing (00_scope R3): the agents deliver event words,
and the oldest waiting one is served next (log 1). -/

namespace Sys2Proof.Machine

/-- The oldest waiting event word as it decodes, and the state in which it is served; none where no word is waiting. -/
def fetch (s : State) : Option (Except RefusalReason Instr × State) :=
  match s.events with
  | [] => none
  | w :: rest => some (decode w, s.setEvents rest)

/-- No event word is waiting: no event, so no change (20_memory R53, log 2). -/
def awaitEvent (s : State) : Host.Outcome State Fault Refusal := .next s

/-- Deliver an event word to be served next. -/
def State.deliverFirst (w : Word) (s : State) : State := s.setEvents (w :: s.events)

end Sys2Proof.Machine
end

