-- ==== Sys2Proof/Machine/Step.lean ====
section
/-! DEFINITION. One step: the oldest waiting event word is decoded and served, as one atomic event (20_memory R53). -/

namespace Sys2Proof.Machine

/-- One event of the block. -/
def step (s : State) : Host.Outcome State Fault Refusal :=
  match fetch s with
  | none => awaitEvent s
  | some (.ok i, t) => exec i t
  | some (.error r, t) => refuseWord r t

/-- `s` with the event word of an opcode-table row delivered, to be served by the next step (log 18). -/
def State.withFetchWord (s : State) (nbits w : Nat) : State := s.deliverFirst (wordOfBits nbits w)

end Sys2Proof.Machine
end

