-- ==== Sys2Proof/Machine/Assembler.lean ====
section
/-! DEFINITION. The assembler syntax of 30_encoding R72 and the pseudo-events of R73. Both are the spec's own presentation (D29):
no step of the machine reads this file. -/

namespace Sys2Proof.Machine

/-- One line of a schedule: an event (30_encoding R72) or a pseudo-event (R73). -/
inductive AsmLine where
  | event (i : Instr)
  /-- `TICKS n` -/
  | ticks (n : Nat)
  /-- `LOAD a, v0, ..., vk` -/
  | load (a : Nat) (vs : List Byte)
  /-- `REFRESH v0, ..., v(EMIT_BYTES-1)` -/
  | refresh (vs : List Byte)
  /-- `SECTOR` -/
  | sector
  deriving DecidableEq, Repr

/-- `CWRITE a, v0; CWRITE a+1, v1; ...`; none where an index has no 16-bit encoding (log 26). -/
def loadEvents : Nat → List Byte → Option (List Instr)
  | _, [] => some []
  | a, v :: vs =>
    if a < 65536 then (loadEvents (a + 1) vs).map (Instr.cwrite (BitVec.ofNat 16 a) v :: ·) else none

/-- The real events a line stands for (30_encoding R73); none where it stands for none (log 26). -/
def AsmLine.expand (p : Params) : AsmLine → Option (List Instr)
  | .event i => some [i]
  | .ticks n => some (List.replicate n .tick)
  | .load a vs => loadEvents a vs
  | .refresh vs =>
    if vs.length = p.emitBytes then (loadEvents 0 vs).map (· ++ [.rearm]) else none
  | .sector => some (List.replicate (8 * p.emitBytes) .tick)

/-- The event words of a line. -/
def AsmLine.words (p : Params) (l : AsmLine) : Option (List Word) := (l.expand p).map (·.map encode)

/-- The text before a comment, which a `;` starts. -/
def stripComment (cs : List Char) : List Char := cs.takeWhile (· ≠ ';')

/-- A space or a tab. -/
def isBlank (c : Char) : Bool := c = ' ' || c = '\t'

/-- Without the blanks around it. -/
def trimBlanks (cs : List Char) : List Char :=
  ((cs.dropWhile isBlank).reverse.dropWhile isBlank).reverse

/-- The pieces between the commas. -/
def splitCommas : List Char → List (List Char)
  | [] => [[]]
  | c :: cs =>
    match splitCommas cs with
    | [] => [[c]]
    | p :: ps => if c = ',' then [] :: p :: ps else (c :: p) :: ps

/-- One digit in decimal or hexadecimal. -/
def digitValue (base : Nat) (c : Char) : Option Nat :=
  let n := c.toNat
  let d :=
    if 48 ≤ n ∧ n ≤ 57 then n - 48
    else if 65 ≤ n ∧ n ≤ 70 then n - 55
    else if 97 ≤ n ∧ n ≤ 102 then n - 87
    else base
  if d < base then some d else none

/-- The digits after the value `acc`. -/
def digitsValue (base : Nat) : Nat → List Char → Option Nat
  | acc, [] => some acc
  | acc, c :: cs => (digitValue base c).bind fun d => digitsValue base (acc * base + d) cs

/-- A number, "decimal or `0x` hexadecimal" (30_encoding R72). -/
def parseNat : List Char → Option Nat
  | [] => none
  | ['0', 'x'] => none
  | '0' :: 'x' :: cs => digitsValue 16 0 cs
  | c :: cs => digitsValue 10 0 (c :: cs)

/-- A number that is an 8-bit value. -/
def parseByte (cs : List Char) : Option Byte :=
  (parseNat cs).bind fun n => if n < 256 then some (BitVec.ofNat 8 n) else none

/-- A list of bytes, at least one. -/
def parseBytes : List (List Char) → Option (List Byte)
  | [] => none
  | cs => cs.mapM parseByte

/-- The operands after the mnemonic, separated by commas. -/
def parseOperands (cs : List Char) : List (List Char) :=
  match trimBlanks cs with
  | [] => []
  | r => (splitCommas r).map trimBlanks

/-- A line without its comment, split into mnemonic and operands. -/
def parseBody (mnemonic : List Char) (ops : List (List Char)) : Option AsmLine :=
  match mnemonic, ops with
  | ['T', 'I', 'C', 'K'], [] => some (.event .tick)
  | ['M', 'I', 'S', 'S'], [] => some (.event .miss)
  | ['E', 'N', 'T', 'E', 'R'], [] => some (.event .enter)
  | ['R', 'E', 'A', 'R', 'M'], [] => some (.event .rearm)
  | ['E', 'X', 'I', 'T'], [] => some (.event .exit)
  | ['S', 'E', 'T', 'F', 'M', 'T'], [] => some (.event .setfmt)
  | ['C', 'L', 'R', 'F', 'M', 'T'], [] => some (.event .clrfmt)
  | ['R', 'D', 'S', 'T', 'A', 'T'], [] => some (.event .rdstat)
  | ['C', 'W', 'R', 'I', 'T', 'E'], [a, v] =>
    (parseNat a).bind fun n =>
      if n < 65536 then (parseByte v).map fun b => .event (.cwrite (BitVec.ofNat 16 n) b) else none
  | ['T', 'I', 'C', 'K', 'S'], [n] => (parseNat n).map .ticks
  | ['L', 'O', 'A', 'D'], a :: vs => (parseNat a).bind fun n => (parseBytes vs).map (.load n)
  | ['R', 'E', 'F', 'R', 'E', 'S', 'H'], vs => (parseBytes vs).map .refresh
  | ['S', 'E', 'C', 'T', 'O', 'R'], [] => some .sector
  | _, _ => none

/-- One line of assembler text (30_encoding R72); none where it is no line of the syntax or holds no event. -/
def parseLine (text : List Char) : Option AsmLine :=
  let body := trimBlanks (stripComment text)
  let mnemonic := body.takeWhile fun c => !isBlank c
  parseBody mnemonic (parseOperands (body.drop mnemonic.length))

end Sys2Proof.Machine
end

