-- ==== Sys2Proof/Safety.lean ====
section
/-! DEFINITION. The terms claims are stated in: the agents, the invariant of 10_state R35, the Controller's protocol, a run of
events, the emitted bit order, and the receiver of 40_tick R88. No step of the machine reads this file. -/

namespace Sys2Proof

/-- The agents of 00_scope R11. The block does not check which of them issued an event (60_exceptions R130). -/
inductive Agent where
  | timer
  | sessionController
  | writeFieldDecoder
  | storageAgent
  /-- The vintage computer: it issues nothing and observes the output trace. -/
  | host
  deriving DecidableEq, Repr

/-- The issuing agent of 30_encoding R61. -/
def Instr.agent : Instr → Agent
  | .tick => .timer
  | .miss => .timer
  | .enter => .sessionController
  | .rearm => .sessionController
  | .exit => .sessionController
  | .setfmt => .writeFieldDecoder
  | .clrfmt => .sessionController
  | .rdstat => .sessionController
  | .cwrite _ _ => .storageAgent

end Sys2Proof

namespace Sys2Proof.Machine

/-- A good end of a run: nothing faulted, nothing refused (60_exceptions R122, R123). -/
def State.good (s : State) : Bool := !s.halted

/-- The legal mask values, in the order a byte's bits are sent (10_state R21). -/
def oneHotMasks : List Byte := [0x80#8, 0x40#8, 0x20#8, 0x10#8, 0x08#8, 0x04#8, 0x02#8, 0x01#8]

/-- What holds of every reachable state: 10_state R35, and the form of the cache and the bounds of the parameters. -/
structure Inv (s : State) : Prop where
  params_ok : s.params.Ok
  mask_oneHot : s.mask ∈ oneHotMasks
  cursor_le : s.cursor ≤ s.params.emitBytes
  mask_at_end : s.cursor = s.params.emitBytes → s.mask = 0x80#8
  cache_wf : s.cache.wf = true
  cache_within : s.cache.within s.params.cacheBytes = true

/-- The cache holds a valid byte at every index the generator emits. -/
def State.loaded (s : State) : Prop := ∀ a, a < s.params.emitBytes → ∃ v, s.cache.read a = some v

/-- The Controller's states (70_reset_and_hazards R142). -/
inductive Controller where
  | idle
  | active
  deriving DecidableEq, Repr

/-- The source's protocol: ENTER only out of IDLE, EXIT only out of ACTIVE (70_reset_and_hazards R142, 10_state R36), REARM only in
a session, on "sector-exhausted and no formatting write is in progress" (41_control R98, R99, R113). None where the Controller
issues no such event. Every other event may come at any time. -/
def Controller.next (c : Controller) (i : Instr) (s : State) : Option Controller :=
  match c, i with
  | .idle, .enter => some .active
  | .active, .enter => none
  | .idle, .exit => none
  | .active, .exit => some .idle
  | .idle, .rearm => none
  | .active, .rearm => if s.signalsExhausted && !s.formatting then some .active else none
  | c, .tick => some c
  | c, .miss => some c
  | c, .setfmt => some c
  | c, .clrfmt => some c
  | c, .rdstat => some c
  | c, .cwrite _ _ => some c

/-- What the protocol keeps true: outside a session the position is reset and the block idle; inside one, a ready sector has bytes
left to emit (10_state R36). -/
def Controller.Keeps : Controller → State → Prop
  | .idle, s => s.sectorReady = false ∧ s.cursor = 0 ∧ s.mask = 0x80#8
  | .active, s => s.sectorReady = true → s.cursor < s.params.emitBytes

/-- A run of events, one after the other, that stops at the first outcome that is no next state (20_memory R53). -/
def runEvents : List Instr → State → Host.Outcome State Fault Refusal
  | [], s => .next s
  | i :: is, s =>
    match exec i s with
    | .next t => runEvents is t
    | .fault f => .fault f
    | .refused r => .refused r

/-- A byte as eight windows, bit 7 first (30_encoding R68). -/
def byteWindows (b : Byte) : List Bool :=
  [b.getLsbD 7, b.getLsbD 6, b.getLsbD 5, b.getLsbD 4, b.getLsbD 3, b.getLsbD 2, b.getLsbD 1, b.getLsbD 0]

/-- Bytes in order, each as eight windows (30_encoding R68). -/
def sectorWindows (bs : List Byte) : List Bool := bs.flatMap byteWindows

/-- The byte of eight windows, the first as bit 7 (40_tick R88). -/
def windowsByte (b7 b6 b5 b4 b3 b2 b1 b0 : Bool) : Byte := BitVec.ofBoolListBE [b7, b6, b5, b4, b3, b2, b1, b0]

/-- The receiver of 40_tick R88: the windows in groups of 8, the first of each group as bit 7. -/
def receive : List Bool → List Byte
  | b7 :: b6 :: b5 :: b4 :: b3 :: b2 :: b1 :: b0 :: rest => windowsByte b7 b6 b5 b4 b3 b2 b1 b0 :: receive rest
  | _ => []

end Sys2Proof.Machine

namespace Sys2Proof

/-- The number of windows one sector's emission takes with no idle or MISS window (70_reset_and_hazards R157). -/
def Params.sectorWindowCount (p : Params) : Nat := 8 * p.emitBytes

/-- That emission's length (70_reset_and_hazards R157), in the unit of the open `TICK_PERIOD`. No rule depends on it. -/
def Params.sectorDuration (p : Params) : Nat := p.sectorWindowCount * Config.tickPeriod

/-- When, from the start of window 0, the transition of window `n` falls (70_reset_and_hazards R155). No rule depends on it. -/
def transitionTime (n : Nat) : Nat := n * Config.tickPeriod + Config.pulseOffset

end Sys2Proof
end

