-- ==== Sys2Proof/Certificates/Slice0/Obligations.lean ====
section
/-! DEFINITION. The statements about the machine. `s.halted = false` says that neither sticky mark is set (60_exceptions R122, R123);
where a statement says what an event does, that is its only hypothesis beside the ones the rule names. A next state written
`{ s with ... }` says the whole frame: every field not named there is unchanged. -/

open Sys2Proof Sys2Proof.Machine

/-! ## Reset and the step -/

/-- 10_state section 8, 70_reset_and_hazards section 1: power-on reset. The values are the spec's own choice D4 (log 7); the
parameters are open, inside the bounds of 00_scope section 4 (log 3). -/
def Obligations.ResetHasThePowerOnValues : Prop :=
  State.reset.mask = 0x80#8 ∧ State.reset.cursor = 0 ∧ State.reset.sectorReady = false ∧
    State.reset.formatting = false ∧ (∀ a, State.reset.cache.read a = none) ∧ State.reset.fault = none ∧
    State.reset.refused = none ∧ State.reset.status = 0x00#8 ∧ State.reset.trace = [] ∧ State.reset.params.Ok

/-- A step serves the oldest waiting event word: when it decodes, the step is that event on the state without the word. The
list of waiting words is the model's own (log 1). -/
def Obligations.StepRunsTheDecodedEvent : Prop :=
  ∀ (s : State) (w : Word) (rest : List Word) (i : Instr),
    s.events = w :: rest → decode w = .ok i → step s = exec i { s with events := rest }

/-- 30_encoding section 2, 60_exceptions section 2: a word the machine's decoder refuses sets the mark with the first reason in
decode order, and changes nothing else but the waiting list (D16, logs 1, 6, 17). -/
def Obligations.RefusedWordSetsOnlyTheMark : Prop :=
  ∀ (s : State) (w : Word) (rest : List Word) (r : RefusalReason),
    s.halted = false → s.events = w :: rest → decodeFor s.params w = .error r →
      step s = .next { s with events := rest, refused := some r }

/-- 20_memory section 5: without an event nothing changes (the model's reading, log 2). -/
def Obligations.StepWithNoEventChangesNothing : Prop :=
  ∀ s : State, s.events = [] → step s = .next s

/-- 60_exceptions section 2 (D14): a marked state is quiescent; every event leaves it unchanged and emits nothing, and a step only
takes the word off the waiting list (logs 1, 6). -/
def Obligations.MarkedStateIsQuiescent : Prop :=
  ∀ s : State, s.halted = true →
    (∀ i : Instr, exec i s = .next s) ∧
      (∀ (w : Word) (rest : List Word), s.events = w :: rest → step s = .next { s with events := rest })

/-- 60_exceptions R118 "The source gives the generator no failure path": with sizes inside their bounds a step always has a next
state; neither of the model's own stops is ever reached (log 25). -/
def Obligations.StepAlwaysHasANextState : Prop :=
  ∀ s : State, s.params.Ok → ∃ t, step s = .next t

/-- Every step keeps the invariant, from every state that has it. The clauses on mask and cursor are 10_state section 7, an inference
the spec marks as its own. The bounds of the parameters are 00_scope section 4, and that they stand in State is the model's choice
(log 3). The canonical form of the cache, indices strictly rising, is the model's choice (log 19); that they lie below `CACHE_BYTES`
is 20_memory section 1. -/
def Obligations.StepKeepsTheReachableForm : Prop :=
  ∀ s t : State, Inv s → step s = .next t → Inv t

/-- The state after reset has the invariant that every step keeps. Mask and cursor there are the spec's own choice D4 (log 7), the
parameters are the model's open `Config.params`, inside the bounds of 00_scope section 4 (log 3), and the cache lists nothing, in the
model's canonical form (log 19). -/
def Obligations.ResetHasTheReachableForm : Prop := Inv State.reset

/-! ## The event word -/

/-- The word of each of the nine codes of 30_encoding section 1 (95_test_vectors sections 2.3 and 2.4), and refused words of section
2.4, read from their fields (D2). -/
def Obligations.SampleWordsDecode : Prop :=
  decode 0x00000000#32 = .ok .tick ∧ decode 0x00000001#32 = .ok .miss ∧ decode 0x00000002#32 = .ok .enter ∧
    decode 0x00000003#32 = .ok .rearm ∧ decode 0x00000004#32 = .ok .exit ∧ decode 0x00000005#32 = .ok .setfmt ∧
    decode 0x00000006#32 = .ok .clrfmt ∧ decode 0x00000007#32 = .ok .rdstat ∧
    decode 0x0001AA08#32 = .ok (.cwrite 0x0001#16 0xAA#8) ∧ decode 0x00000009#32 = .error .reservedOp ∧
    decode 0x00000010#32 = .error .reservedBits ∧ decode 0x00000102#32 = .error .reservedBits ∧
    decode 0x00010000#32 = .error .reservedBits ∧ decode 0x00000019#32 = .error .reservedOp

/-- 30_encoding sections 1 and 2: the decoder reads every encoded event back, every operand at every value. -/
def Obligations.DecodeOfEncodeIsTheEvent : Prop :=
  ∀ i : Instr, decode (encode i) = .ok i

/-- 30_encoding sections 1 and 2: an event has one word; a word that decodes is the encoding of what it decodes to. -/
def Obligations.EncodeOfDecodeIsTheWord : Prop :=
  ∀ (w : Word) (i : Instr), decode w = .ok i → encode i = w

/-- 30_encoding section 2: the decoder refuses by the first failing check, in the order op, rsv, operand bits, index (D16). -/
def Obligations.DecodeRefusesByTheFirstFailingCheck : Prop :=
  ∀ (p : Params) (w : Word),
    if 9 ≤ w.toNat % 16 then decodeFor p w = .error .reservedOp
    else if w.toNat / 16 % 16 ≠ 0 then decodeFor p w = .error .reservedBits
    else if w.toNat % 16 ≠ 8 ∧ w.toNat / 256 ≠ 0 then decodeFor p w = .error .reservedBits
    else if w.toNat % 16 = 8 ∧ p.cacheBytes ≤ w.toNat / 65536 then decodeFor p w = .error .cacheIndexOutOfRange
    else if w.toNat % 16 = 1 ∧ p.mayMissTicks = false then decodeFor p w = .error .missNotAdmitted
    else ∃ i, decodeFor p w = .ok i ∧ i.admitted p = true

/-! ## TICK -/

/-- 40_tick R77, the idle gate: an idle TICK emits `false`. That nothing else changes is an inference the spec marks as its own
(40_tick section 1). -/
def Obligations.IdleTickChangesOnlyTheTrace : Prop :=
  ∀ s : State, s.halted = false → s.sectorReady = false ∨ s.formatting = true →
    exec .tick s = .next { s with trace := s.trace ++ [false] }

/-- 30_encoding R67: an active TICK on a valid cell emits `(byte & mask) != 0`; with the one-hot mask `0x80 >> k` that is bit `7 - k`. -/
def Obligations.ActiveTickEmitsTheBitUnderTheMask : Prop :=
  ∀ (s : State) (v : Byte), s.params.Ok → s.halted = false → s.sectorReady = true → s.formatting = false →
    s.cursor < s.params.emitBytes → s.cache.read s.cursor = some v →
      ∃ t, exec .tick s = .next t ∧ t.trace = s.trace ++ [decide (v &&& s.mask ≠ 0#8)] ∧
        ∀ k, k < 8 → s.mask = 0x80#8 >>> k → t.trace = s.trace ++ [v.getLsbD (7 - k)]

/-- An active TICK on an invalid cell runs, and emits the mask's bit of a free value (20_memory section 2, the spec's own reading
D26, log 5). It holds whatever the free value is. -/
def Obligations.ActiveTickOnAnInvalidCellEmitsAFreeBit : Prop :=
  ∀ s : State, s.params.Ok → s.halted = false → s.sectorReady = true → s.formatting = false →
    s.cursor < s.params.emitBytes → s.cache.read s.cursor = none →
      ∃ t, exec .tick s = .next t ∧ t.trace = s.trace ++ [decide (Config.draw s.draws &&& s.mask ≠ 0#8)] ∧
        t.draws = s.draws + 1

/-- 40_tick R83: before the last bit of a byte an active TICK, after emitting its window, shifts the mask and leaves the cursor. -/
def Obligations.ActiveTickShiftsTheMask : Prop :=
  ∀ s : State, s.params.Ok → s.halted = false → s.sectorReady = true → s.formatting = false →
    s.cursor < s.params.emitBytes → s.mask ≠ 0x01#8 →
      ∃ t b, exec .tick s = .next t ∧ t.trace = s.trace ++ [b] ∧ t.mask = s.mask >>> 1 ∧ t.cursor = s.cursor

/-- 40_tick R84: at the last bit of a byte an active TICK, after emitting its window, reloads the mask and advances the cursor, which
stays within `EMIT_BYTES`. -/
def Obligations.ActiveTickReloadsTheMaskAndAdvancesTheCursor : Prop :=
  ∀ s : State, s.params.Ok → s.halted = false → s.sectorReady = true → s.formatting = false →
    s.cursor < s.params.emitBytes → s.mask = 0x01#8 →
      ∃ t b, exec .tick s = .next t ∧ t.trace = s.trace ++ [b] ∧ t.mask = 0x80#8 ∧ t.cursor = s.cursor + 1 ∧
        t.cursor ≤ s.params.emitBytes

/-- Sector exhaustion (40_tick section 1): the tick that emits the sector's last bit, and no other active TICK, clears `sector_ready`.
That it is this tick and not the next is the spec's own choice D6 (log 9). -/
def Obligations.OnlyTheLastBitClearsSectorReady : Prop :=
  ∀ s : State, s.params.Ok → s.halted = false → s.sectorReady = true → s.formatting = false →
    s.cursor < s.params.emitBytes →
      ∃ t, exec .tick s = .next t ∧
        (t.sectorReady = false ↔ s.mask = 0x01#8 ∧ s.cursor + 1 = s.params.emitBytes)

/-- The frame of an active TICK (40_tick section 1): beside the stream position, `sector_ready`, the trace and the model's count of
free values, nothing changes, no byte of the cache among the rest. -/
def Obligations.ActiveTickFrame : Prop :=
  ∀ s : State, s.params.Ok → s.halted = false → s.sectorReady = true → s.formatting = false →
    s.cursor < s.params.emitBytes →
      ∃ t, exec .tick s = .next t ∧ (∀ a, t.cache.read a = s.cache.read a) ∧
        t = { s with mask := t.mask, cursor := t.cursor, sectorReady := t.sectorReady, trace := t.trace,
                     draws := t.draws }

/-- An active TICK with the cursor past the field records the fault and does nothing else (40_tick section 1; the fault is the spec's
own choice D27, logs 6, 29). -/
def Obligations.ActiveTickPastTheFieldRecordsTheFault : Prop :=
  ∀ s : State, s.halted = false → s.sectorReady = true → s.formatting = false → s.params.emitBytes ≤ s.cursor →
    exec .tick s = .next { s with fault := some .cursorOutOfRange }

/-- 10_state section 3, an inference the spec marks as its own: with `mask = 0x80 >> k`, an active TICK moves the stream position
`8 * cursor + k` by exactly one, to another one-hot mask. -/
def Obligations.ActiveTickMovesTheStreamByOneBit : Prop :=
  ∀ (s : State) (k : Nat), s.params.Ok → s.halted = false → s.sectorReady = true → s.formatting = false →
    s.cursor < s.params.emitBytes → k < 8 → s.mask = 0x80#8 >>> k →
      ∃ t k', exec .tick s = .next t ∧ k' < 8 ∧ t.mask = 0x80#8 >>> k' ∧
        8 * t.cursor + k' = 8 * s.cursor + k + 1

/-- 40_tick section 1: an idle TICK takes nothing from the cache. Whatever bytes the cache holds, the tick does the same (the
source's property "never reads Sector Cache while the sector-ready flag is false"). -/
def Obligations.IdleTickTakesNothingFromTheCache : Prop :=
  ∀ (s t : State) (m : Memory), s.sectorReady = false ∨ s.formatting = true → exec .tick s = .next t →
    exec .tick { s with cache := m } = .next { t with cache := m }

/-- 40_tick section 1: while the sector is not ready any number of TICKs send idle windows and change nothing else. -/
def Obligations.IdleGapSendsOnlyIdleWindows : Prop :=
  ∀ (n : Nat) (s : State), s.halted = false → s.sectorReady = false →
    runEvents (List.replicate n .tick) s = .next { s with trace := s.trace ++ List.replicate n false }

/-! ## The stream of a sector -/

/-- 40_tick section 1, an inference the spec marks as its own: after REARM, TICKs alone send the bytes in index order, each as eight
windows, bit 7 first. -/
def Obligations.SectorIsSentByteByByteMsbFirst : Prop :=
  ∀ (s : State) (bs : List Byte), s.params.Ok → s.halted = false → s.formatting = false →
    bs.length = s.params.emitBytes → (∀ a, a < s.params.emitBytes → s.cache.read a = bs[a]?) →
      ∃ t, runEvents (.rearm :: List.replicate (8 * s.params.emitBytes) .tick) s = .next t ∧
        t.trace = s.trace ++ sectorWindows bs

/-- 40_tick section 1, an inference the spec marks as its own: `j` TICKs after REARM the stream stands at bit `j`, whatever the
cache holds, and the sector is ready exactly while `j < 8 * EMIT_BYTES` (D6, log 9). -/
def Obligations.TicksAfterRearmStandAtTheirBit : Prop :=
  ∀ (s : State) (j : Nat), s.params.Ok → s.halted = false → s.formatting = false → j ≤ 8 * s.params.emitBytes →
    ∃ t, runEvents (.rearm :: List.replicate j .tick) s = .next t ∧ t.cursor = j / 8 ∧
      t.mask = 0x80#8 >>> (j % 8) ∧ t.sectorReady = decide (j < 8 * s.params.emitBytes) ∧
      t.trace.length = s.trace.length + j ∧ t.fault = none

/-- 40_tick section 1, the source's round trip: a receiver that groups a sector's windows by eight recovers the bytes. -/
def Obligations.ReceiverRecoversTheSector : Prop :=
  ∀ (s : State) (bs : List Byte), s.params.Ok → s.halted = false → s.formatting = false →
    bs.length = s.params.emitBytes → (∀ a, a < s.params.emitBytes → s.cache.read a = bs[a]?) →
      ∃ t, runEvents (.rearm :: List.replicate (8 * s.params.emitBytes) .tick) s = .next t ∧
        receive (t.trace.drop s.trace.length) = bs

/-- 40_tick section 1, the formatting hold: SETFMT, any number of TICKs and CLRFMT leave the generator where it was, with that many
idle windows sent (CLRFMT is the spec's own event, D17). -/
def Obligations.FormattingHoldFreezesTheStream : Prop :=
  ∀ (n : Nat) (s : State), s.halted = false → s.formatting = false →
    runEvents (.setfmt :: (List.replicate n .tick ++ [.clrfmt])) s =
      .next { s with trace := s.trace ++ List.replicate n false }

/-- 20_memory section 4: a byte written under the cursor is what the next active TICK emits from (every tick reads afresh is the
spec's own choice D7, log 10). -/
def Obligations.WriteUnderTheCursorIsSeenByTheNextTick : Prop :=
  ∀ (s : State) (a : BitVec 16) (v : Byte), s.params.Ok → s.halted = false → s.sectorReady = true →
    s.formatting = false → s.cursor < s.params.emitBytes → a.toNat = s.cursor →
      ∃ t, runEvents [.cwrite a v, .tick] s = .next t ∧ t.trace = s.trace ++ [decide (v &&& s.mask ≠ 0#8)]

/-! ## MISS -/

/-- 40_tick section 2 (the event is the spec's reading, D9): an admitted MISS sends an empty window and changes nothing else. -/
def Obligations.AdmittedMissSendsAnEmptyWindow : Prop :=
  ∀ s : State, s.halted = false → s.params.mayMissTicks = true →
    exec .miss s = .next { s with trace := s.trace ++ [false] }

/-- 40_tick section 2 (D9): a MISS that the parameters do not admit is refused, and sends no window. -/
def Obligations.UnadmittedMissIsRefused : Prop :=
  ∀ s : State, s.halted = false → s.params.mayMissTicks = false →
    exec .miss s = .next { s with refused := some .missNotAdmitted }

/-! ## The commands -/

/-- 41_control R95 gives the flags; that ENTER leaves the stream position alone is the spec's own choice D18 (log 20). -/
def Obligations.EnterSetsTheEntryFlags : Prop :=
  ∀ s : State, s.halted = false →
    exec .enter s = .next { s with sectorReady := true, formatting := false }

/-- 41_control section 2: ENTER after an exhaustion with no EXIT between makes the next TICK record the fault (D27, log 29). -/
def Obligations.EnterAtTheEndMakesTheNextTickFault : Prop :=
  ∀ s : State, s.halted = false → s.cursor = s.params.emitBytes →
    runEvents [.enter, .tick] s =
      .next { s with sectorReady := true, formatting := false, fault := some .cursorOutOfRange }

/-- 41_control R98. -/
def Obligations.RearmRewindsAndEnables : Prop :=
  ∀ s : State, s.halted = false →
    exec .rearm s = .next { s with cursor := 0, mask := 0x80#8, sectorReady := true }

/-- 41_control R101 gives the position and the cache; that EXIT clears both flags is the spec's own choice D5 (log 8). -/
def Obligations.ExitRewindsClearsTheFlagsAndInvalidates : Prop :=
  ∀ s : State, s.halted = false →
    ∃ t, exec .exit s = .next t ∧ (∀ a, t.cache.read a = none) ∧
      t = { s with cursor := 0, mask := 0x80#8, sectorReady := false, formatting := false, cache := t.cache }

/-- 41_control R104. -/
def Obligations.SetfmtRaisesTheHold : Prop :=
  ∀ s : State, s.halted = false → exec .setfmt s = .next { s with formatting := true }

/-- 41_control section 5; the event is the spec's own (D17). -/
def Obligations.ClrfmtReleasesTheHold : Prop :=
  ∀ s : State, s.halted = false → exec .clrfmt s = .next { s with formatting := false }

/-- 41_control section 6: RDSTAT returns the flags as a word and changes nothing else (layout D3, no side effect D19, logs 4, 16, 22). -/
def Obligations.RdstatReturnsTheFlags : Prop :=
  ∀ s : State, s.halted = false →
    exec .rdstat s =
      .next { s with results := s.results ++
        [match s.formatting, s.sectorReady with
          | false, false => 0x00000000#32
          | false, true => 0x00000001#32
          | true, false => 0x00000002#32
          | true, true => 0x00000003#32] }

/-- 10_state section 5 (layout D3): the bits of STATUS; bits 7:2 read 0. -/
def Obligations.StatusBitsAreTheFlags : Prop :=
  ∀ (s : State) (k : Nat),
    s.status.getLsbD k = if k = 0 then s.sectorReady else if k = 1 then s.formatting else false

/-- 41_control sections 2 to 5: each command of the main loop, given twice in a row, is the same as given once. -/
def Obligations.CommandsAreIdempotent : Prop :=
  ∀ (i : Instr) (s t : State), i ∈ [Instr.enter, .rearm, .exit, .setfmt, .clrfmt] → exec i s = .next t →
    exec i t = .next t

/-! ## The Sector Cache -/

/-- 20_memory R46: a CWRITE inside the cache sets that cell, no other cell and no other field; and after any other event every
cell reads as before, but that EXIT makes them invalid. -/
def Obligations.OnlyCwriteWritesACell : Prop :=
  (∀ (s : State) (a : BitVec 16) (v : Byte), s.halted = false → a.toNat < s.params.cacheBytes →
    ∃ t, exec (.cwrite a v) s = .next t ∧ t.cache.read a.toNat = some v ∧
      (∀ x, x ≠ a.toNat → t.cache.read x = s.cache.read x) ∧ t = { s with cache := t.cache }) ∧
  (∀ (i : Instr) (s t : State), (∀ a v, i ≠ .cwrite a v) → exec i s = .next t →
    ∀ x, t.cache.read x = s.cache.read x ∨ (i = .exit ∧ t.cache.read x = none))

/-- 41_control section 7: a CWRITE outside the cache is refused and writes nothing (D24). -/
def Obligations.CwriteOutsideTheCacheIsRefused : Prop :=
  ∀ (s : State) (a : BitVec 16) (v : Byte), s.halted = false → s.params.cacheBytes ≤ a.toNat →
    exec (.cwrite a v) s = .next { s with refused := some .cacheIndexOutOfRange }

/-- 20_memory section 1: the bytes from `EMIT_BYTES` on are never read. Two states whose caches agree below `EMIT_BYTES` go through
every event alike, and their caches agree below it again. -/
def Obligations.BytesPastTheFieldAreNeverRead : Prop :=
  ∀ (i : Instr) (s t : State) (m : Memory), (∀ a, a < s.params.emitBytes → m.read a = s.cache.read a) →
    exec i s = .next t →
      ∃ t', exec i { s with cache := m } = .next t' ∧ t' = { t with cache := t'.cache } ∧
        ∀ a, a < s.params.emitBytes → t'.cache.read a = t.cache.read a

/-- 30_encoding section 4 and 41_control section 8: the pseudo-event REFRESH loads a sector's bytes and rearms, so that the cache
holds them, every cell from `EMIT_BYTES` on reads as before, and the stream stands ready at its start (D29, log 26). -/
def Obligations.RefreshLoadsTheSectorAndRearms : Prop :=
  ∀ (s : State) (bs : List Byte), s.params.Ok → s.halted = false → bs.length = s.params.emitBytes →
    ∃ is t, (AsmLine.refresh bs).expand s.params = some is ∧ runEvents is s = .next t ∧
      (∀ a, a < s.params.emitBytes → t.cache.read a = bs[a]?) ∧
      (∀ a, s.params.emitBytes ≤ a → t.cache.read a = s.cache.read a) ∧
      t = { s with cursor := 0, mask := 0x80#8, sectorReady := true, cache := t.cache }

/-! ## Whole-machine rules -/

/-- 10_state R28: no event writes a flag but those named for it; MISS, RDSTAT and CWRITE write none, and a
TICK only the one that exhausts the sector. -/
def Obligations.OnlyTheNamedEventsWriteAFlag : Prop :=
  ∀ (i : Instr) (s t : State), exec i s = .next t →
    (i ∉ [Instr.tick, .enter, .rearm, .exit] → t.sectorReady = s.sectorReady) ∧
    (i ∉ [Instr.enter, .exit, .setfmt, .clrfmt] → t.formatting = s.formatting) ∧
    (i = .tick → t.sectorReady = s.sectorReady ∨
      (s.sectorReady = true ∧ s.formatting = false ∧ s.mask = 0x01#8 ∧ s.cursor + 1 = s.params.emitBytes ∧
        t.sectorReady = false))

/-- 10_state section 3, an inference the spec marks as its own: only an active TICK, REARM and EXIT move the stream position, and every
move but an active TICK's is to bit 7 of byte 0. -/
def Obligations.OnlyActiveTicksAndRewindsMoveTheStream : Prop :=
  ∀ (i : Instr) (s t : State), exec i s = .next t →
    (t.cursor = s.cursor ∧ t.mask = s.mask) ∨
    (i = .tick ∧ s.sectorReady = true ∧ s.formatting = false ∧ s.cursor < s.params.emitBytes) ∨
    ((i = .rearm ∨ i = .exit) ∧ t.cursor = 0 ∧ t.mask = 0x80#8)

/-- 30_encoding section 3: each TICK and each MISS that leaves no mark appends exactly one window to the trace; nothing else does
(a TICK that faults and a MISS that is refused emit nothing, logs 6, 29). -/
def Obligations.OneWindowPerTickOrMiss : Prop :=
  ∀ (i : Instr) (s t : State), s.halted = false → exec i s = .next t →
    if (i = .tick ∨ i = .miss) ∧ t.halted = false then ∃ b, t.trace = s.trace ++ [b]
    else t.trace = s.trace

/-- 41_control section 6, an inference the spec marks as its own: once `SR` reads 0 it stays 0 until ENTER or REARM. -/
def Obligations.NotReadyStaysUntilEnterOrRearm : Prop :=
  ∀ (i : Instr) (s t : State), s.sectorReady = false → i ≠ .enter → i ≠ .rearm → exec i s = .next t →
    t.sectorReady = false

/-- 10_state section 7, an inference the spec marks as its own: a ready sector with nothing left to emit arises only through ENTER
while the cursor is exhausted. -/
def Obligations.ReadyAtTheEndComesOnlyFromEnter : Prop :=
  ∀ (i : Instr) (s t : State), s.params.Ok → exec i s = .next t →
    ¬ (s.sectorReady = true ∧ s.cursor = s.params.emitBytes) →
    t.sectorReady = true ∧ t.cursor = t.params.emitBytes →
      i = .enter ∧ s.cursor = s.params.emitBytes

/-- 10_state section 7, 70_reset_and_hazards section 3: under the source's protocol (`Controller.next`) every admitted event has a next
state with no mark, and the protocol's own condition holds again, so CursorOutOfRange never arises. -/
def Obligations.ProtocolNeverFaults : Prop :=
  ∀ (c c' : Controller) (i : Instr) (s : State), s.params.Ok → s.halted = false → c.Keeps s →
    i.admitted s.params = true → c.next i s = some c' →
      ∃ t, exec i s = .next t ∧ t.halted = false ∧ c'.Keeps t ∧ t.params = s.params
end

