-- ==== Sys2Proof/Laws/State.lean ====
section
/-! SUPPORT. What each update of the state does to each field: one lemma per field per update, so that no later proof unfolds a
record update. -/

namespace Sys2Proof.Machine

/-! `State.emit` writes `trace`. -/
@[simp] theorem State.emit_params (t : Bool) (s : State) : (s.emit t).params = s.params := rfl
@[simp] theorem State.emit_mask (t : Bool) (s : State) : (s.emit t).mask = s.mask := rfl
@[simp] theorem State.emit_cursor (t : Bool) (s : State) : (s.emit t).cursor = s.cursor := rfl
@[simp] theorem State.emit_sectorReady (t : Bool) (s : State) : (s.emit t).sectorReady = s.sectorReady := rfl
@[simp] theorem State.emit_formatting (t : Bool) (s : State) : (s.emit t).formatting = s.formatting := rfl
@[simp] theorem State.emit_cache (t : Bool) (s : State) : (s.emit t).cache = s.cache := rfl
@[simp] theorem State.emit_fault (t : Bool) (s : State) : (s.emit t).fault = s.fault := rfl
@[simp] theorem State.emit_refused (t : Bool) (s : State) : (s.emit t).refused = s.refused := rfl
@[simp] theorem State.emit_trace (t : Bool) (s : State) : (s.emit t).trace = s.trace ++ [t] := rfl
@[simp] theorem State.emit_results (t : Bool) (s : State) : (s.emit t).results = s.results := rfl
@[simp] theorem State.emit_draws (t : Bool) (s : State) : (s.emit t).draws = s.draws := rfl
@[simp] theorem State.emit_events (t : Bool) (s : State) : (s.emit t).events = s.events := rfl

/-! `State.answer` writes `results`. -/
@[simp] theorem State.answer_params (v : Word) (s : State) : (s.answer v).params = s.params := rfl
@[simp] theorem State.answer_mask (v : Word) (s : State) : (s.answer v).mask = s.mask := rfl
@[simp] theorem State.answer_cursor (v : Word) (s : State) : (s.answer v).cursor = s.cursor := rfl
@[simp] theorem State.answer_sectorReady (v : Word) (s : State) : (s.answer v).sectorReady = s.sectorReady := rfl
@[simp] theorem State.answer_formatting (v : Word) (s : State) : (s.answer v).formatting = s.formatting := rfl
@[simp] theorem State.answer_cache (v : Word) (s : State) : (s.answer v).cache = s.cache := rfl
@[simp] theorem State.answer_fault (v : Word) (s : State) : (s.answer v).fault = s.fault := rfl
@[simp] theorem State.answer_refused (v : Word) (s : State) : (s.answer v).refused = s.refused := rfl
@[simp] theorem State.answer_trace (v : Word) (s : State) : (s.answer v).trace = s.trace := rfl
@[simp] theorem State.answer_results (v : Word) (s : State) : (s.answer v).results = s.results ++ [v] := rfl
@[simp] theorem State.answer_draws (v : Word) (s : State) : (s.answer v).draws = s.draws := rfl
@[simp] theorem State.answer_events (v : Word) (s : State) : (s.answer v).events = s.events := rfl

/-! `State.raise` writes `fault`. -/
@[simp] theorem State.raise_params (r : FaultReason) (s : State) : (s.raise r).params = s.params := rfl
@[simp] theorem State.raise_mask (r : FaultReason) (s : State) : (s.raise r).mask = s.mask := rfl
@[simp] theorem State.raise_cursor (r : FaultReason) (s : State) : (s.raise r).cursor = s.cursor := rfl
@[simp] theorem State.raise_sectorReady (r : FaultReason) (s : State) : (s.raise r).sectorReady = s.sectorReady := rfl
@[simp] theorem State.raise_formatting (r : FaultReason) (s : State) : (s.raise r).formatting = s.formatting := rfl
@[simp] theorem State.raise_cache (r : FaultReason) (s : State) : (s.raise r).cache = s.cache := rfl
@[simp] theorem State.raise_fault (r : FaultReason) (s : State) : (s.raise r).fault = some r := rfl
@[simp] theorem State.raise_refused (r : FaultReason) (s : State) : (s.raise r).refused = s.refused := rfl
@[simp] theorem State.raise_trace (r : FaultReason) (s : State) : (s.raise r).trace = s.trace := rfl
@[simp] theorem State.raise_results (r : FaultReason) (s : State) : (s.raise r).results = s.results := rfl
@[simp] theorem State.raise_draws (r : FaultReason) (s : State) : (s.raise r).draws = s.draws := rfl
@[simp] theorem State.raise_events (r : FaultReason) (s : State) : (s.raise r).events = s.events := rfl

/-! `State.refuse` writes `refused`. -/
@[simp] theorem State.refuse_params (r : RefusalReason) (s : State) : (s.refuse r).params = s.params := rfl
@[simp] theorem State.refuse_mask (r : RefusalReason) (s : State) : (s.refuse r).mask = s.mask := rfl
@[simp] theorem State.refuse_cursor (r : RefusalReason) (s : State) : (s.refuse r).cursor = s.cursor := rfl
@[simp] theorem State.refuse_sectorReady (r : RefusalReason) (s : State) : (s.refuse r).sectorReady = s.sectorReady := rfl
@[simp] theorem State.refuse_formatting (r : RefusalReason) (s : State) : (s.refuse r).formatting = s.formatting := rfl
@[simp] theorem State.refuse_cache (r : RefusalReason) (s : State) : (s.refuse r).cache = s.cache := rfl
@[simp] theorem State.refuse_fault (r : RefusalReason) (s : State) : (s.refuse r).fault = s.fault := rfl
@[simp] theorem State.refuse_refused (r : RefusalReason) (s : State) : (s.refuse r).refused = some r := rfl
@[simp] theorem State.refuse_trace (r : RefusalReason) (s : State) : (s.refuse r).trace = s.trace := rfl
@[simp] theorem State.refuse_results (r : RefusalReason) (s : State) : (s.refuse r).results = s.results := rfl
@[simp] theorem State.refuse_draws (r : RefusalReason) (s : State) : (s.refuse r).draws = s.draws := rfl
@[simp] theorem State.refuse_events (r : RefusalReason) (s : State) : (s.refuse r).events = s.events := rfl

/-! `State.setMask` writes `mask`. -/
@[simp] theorem State.setMask_params (m : Byte) (s : State) : (s.setMask m).params = s.params := rfl
@[simp] theorem State.setMask_mask (m : Byte) (s : State) : (s.setMask m).mask = m := rfl
@[simp] theorem State.setMask_cursor (m : Byte) (s : State) : (s.setMask m).cursor = s.cursor := rfl
@[simp] theorem State.setMask_sectorReady (m : Byte) (s : State) : (s.setMask m).sectorReady = s.sectorReady := rfl
@[simp] theorem State.setMask_formatting (m : Byte) (s : State) : (s.setMask m).formatting = s.formatting := rfl
@[simp] theorem State.setMask_cache (m : Byte) (s : State) : (s.setMask m).cache = s.cache := rfl
@[simp] theorem State.setMask_fault (m : Byte) (s : State) : (s.setMask m).fault = s.fault := rfl
@[simp] theorem State.setMask_refused (m : Byte) (s : State) : (s.setMask m).refused = s.refused := rfl
@[simp] theorem State.setMask_trace (m : Byte) (s : State) : (s.setMask m).trace = s.trace := rfl
@[simp] theorem State.setMask_results (m : Byte) (s : State) : (s.setMask m).results = s.results := rfl
@[simp] theorem State.setMask_draws (m : Byte) (s : State) : (s.setMask m).draws = s.draws := rfl
@[simp] theorem State.setMask_events (m : Byte) (s : State) : (s.setMask m).events = s.events := rfl

/-! `State.setCursor` writes `cursor`. -/
@[simp] theorem State.setCursor_params (c : Nat) (s : State) : (s.setCursor c).params = s.params := rfl
@[simp] theorem State.setCursor_mask (c : Nat) (s : State) : (s.setCursor c).mask = s.mask := rfl
@[simp] theorem State.setCursor_cursor (c : Nat) (s : State) : (s.setCursor c).cursor = c := rfl
@[simp] theorem State.setCursor_sectorReady (c : Nat) (s : State) : (s.setCursor c).sectorReady = s.sectorReady := rfl
@[simp] theorem State.setCursor_formatting (c : Nat) (s : State) : (s.setCursor c).formatting = s.formatting := rfl
@[simp] theorem State.setCursor_cache (c : Nat) (s : State) : (s.setCursor c).cache = s.cache := rfl
@[simp] theorem State.setCursor_fault (c : Nat) (s : State) : (s.setCursor c).fault = s.fault := rfl
@[simp] theorem State.setCursor_refused (c : Nat) (s : State) : (s.setCursor c).refused = s.refused := rfl
@[simp] theorem State.setCursor_trace (c : Nat) (s : State) : (s.setCursor c).trace = s.trace := rfl
@[simp] theorem State.setCursor_results (c : Nat) (s : State) : (s.setCursor c).results = s.results := rfl
@[simp] theorem State.setCursor_draws (c : Nat) (s : State) : (s.setCursor c).draws = s.draws := rfl
@[simp] theorem State.setCursor_events (c : Nat) (s : State) : (s.setCursor c).events = s.events := rfl

/-! `State.setSectorReady` writes `sectorReady`. -/
@[simp] theorem State.setSectorReady_params (b : Bool) (s : State) : (s.setSectorReady b).params = s.params := rfl
@[simp] theorem State.setSectorReady_mask (b : Bool) (s : State) : (s.setSectorReady b).mask = s.mask := rfl
@[simp] theorem State.setSectorReady_cursor (b : Bool) (s : State) : (s.setSectorReady b).cursor = s.cursor := rfl
@[simp] theorem State.setSectorReady_sectorReady (b : Bool) (s : State) : (s.setSectorReady b).sectorReady = b := rfl
@[simp] theorem State.setSectorReady_formatting (b : Bool) (s : State) : (s.setSectorReady b).formatting = s.formatting := rfl
@[simp] theorem State.setSectorReady_cache (b : Bool) (s : State) : (s.setSectorReady b).cache = s.cache := rfl
@[simp] theorem State.setSectorReady_fault (b : Bool) (s : State) : (s.setSectorReady b).fault = s.fault := rfl
@[simp] theorem State.setSectorReady_refused (b : Bool) (s : State) : (s.setSectorReady b).refused = s.refused := rfl
@[simp] theorem State.setSectorReady_trace (b : Bool) (s : State) : (s.setSectorReady b).trace = s.trace := rfl
@[simp] theorem State.setSectorReady_results (b : Bool) (s : State) : (s.setSectorReady b).results = s.results := rfl
@[simp] theorem State.setSectorReady_draws (b : Bool) (s : State) : (s.setSectorReady b).draws = s.draws := rfl
@[simp] theorem State.setSectorReady_events (b : Bool) (s : State) : (s.setSectorReady b).events = s.events := rfl

/-! `State.setFormatting` writes `formatting`. -/
@[simp] theorem State.setFormatting_params (b : Bool) (s : State) : (s.setFormatting b).params = s.params := rfl
@[simp] theorem State.setFormatting_mask (b : Bool) (s : State) : (s.setFormatting b).mask = s.mask := rfl
@[simp] theorem State.setFormatting_cursor (b : Bool) (s : State) : (s.setFormatting b).cursor = s.cursor := rfl
@[simp] theorem State.setFormatting_sectorReady (b : Bool) (s : State) : (s.setFormatting b).sectorReady = s.sectorReady := rfl
@[simp] theorem State.setFormatting_formatting (b : Bool) (s : State) : (s.setFormatting b).formatting = b := rfl
@[simp] theorem State.setFormatting_cache (b : Bool) (s : State) : (s.setFormatting b).cache = s.cache := rfl
@[simp] theorem State.setFormatting_fault (b : Bool) (s : State) : (s.setFormatting b).fault = s.fault := rfl
@[simp] theorem State.setFormatting_refused (b : Bool) (s : State) : (s.setFormatting b).refused = s.refused := rfl
@[simp] theorem State.setFormatting_trace (b : Bool) (s : State) : (s.setFormatting b).trace = s.trace := rfl
@[simp] theorem State.setFormatting_results (b : Bool) (s : State) : (s.setFormatting b).results = s.results := rfl
@[simp] theorem State.setFormatting_draws (b : Bool) (s : State) : (s.setFormatting b).draws = s.draws := rfl
@[simp] theorem State.setFormatting_events (b : Bool) (s : State) : (s.setFormatting b).events = s.events := rfl

/-! `State.setCache` writes `cache`. -/
@[simp] theorem State.setCache_params (m : Memory) (s : State) : (s.setCache m).params = s.params := rfl
@[simp] theorem State.setCache_mask (m : Memory) (s : State) : (s.setCache m).mask = s.mask := rfl
@[simp] theorem State.setCache_cursor (m : Memory) (s : State) : (s.setCache m).cursor = s.cursor := rfl
@[simp] theorem State.setCache_sectorReady (m : Memory) (s : State) : (s.setCache m).sectorReady = s.sectorReady := rfl
@[simp] theorem State.setCache_formatting (m : Memory) (s : State) : (s.setCache m).formatting = s.formatting := rfl
@[simp] theorem State.setCache_cache (m : Memory) (s : State) : (s.setCache m).cache = m := rfl
@[simp] theorem State.setCache_fault (m : Memory) (s : State) : (s.setCache m).fault = s.fault := rfl
@[simp] theorem State.setCache_refused (m : Memory) (s : State) : (s.setCache m).refused = s.refused := rfl
@[simp] theorem State.setCache_trace (m : Memory) (s : State) : (s.setCache m).trace = s.trace := rfl
@[simp] theorem State.setCache_results (m : Memory) (s : State) : (s.setCache m).results = s.results := rfl
@[simp] theorem State.setCache_draws (m : Memory) (s : State) : (s.setCache m).draws = s.draws := rfl
@[simp] theorem State.setCache_events (m : Memory) (s : State) : (s.setCache m).events = s.events := rfl

/-! `State.countDraw` writes `draws`. -/
@[simp] theorem State.countDraw_params (s : State) : s.countDraw.params = s.params := rfl
@[simp] theorem State.countDraw_mask (s : State) : s.countDraw.mask = s.mask := rfl
@[simp] theorem State.countDraw_cursor (s : State) : s.countDraw.cursor = s.cursor := rfl
@[simp] theorem State.countDraw_sectorReady (s : State) : s.countDraw.sectorReady = s.sectorReady := rfl
@[simp] theorem State.countDraw_formatting (s : State) : s.countDraw.formatting = s.formatting := rfl
@[simp] theorem State.countDraw_cache (s : State) : s.countDraw.cache = s.cache := rfl
@[simp] theorem State.countDraw_fault (s : State) : s.countDraw.fault = s.fault := rfl
@[simp] theorem State.countDraw_refused (s : State) : s.countDraw.refused = s.refused := rfl
@[simp] theorem State.countDraw_trace (s : State) : s.countDraw.trace = s.trace := rfl
@[simp] theorem State.countDraw_results (s : State) : s.countDraw.results = s.results := rfl
@[simp] theorem State.countDraw_draws (s : State) : s.countDraw.draws = s.draws + 1 := rfl
@[simp] theorem State.countDraw_events (s : State) : s.countDraw.events = s.events := rfl

/-! `State.setEvents` writes `events`. -/
@[simp] theorem State.setEvents_params (es : List Word) (s : State) : (s.setEvents es).params = s.params := rfl
@[simp] theorem State.setEvents_mask (es : List Word) (s : State) : (s.setEvents es).mask = s.mask := rfl
@[simp] theorem State.setEvents_cursor (es : List Word) (s : State) : (s.setEvents es).cursor = s.cursor := rfl
@[simp] theorem State.setEvents_sectorReady (es : List Word) (s : State) : (s.setEvents es).sectorReady = s.sectorReady := rfl
@[simp] theorem State.setEvents_formatting (es : List Word) (s : State) : (s.setEvents es).formatting = s.formatting := rfl
@[simp] theorem State.setEvents_cache (es : List Word) (s : State) : (s.setEvents es).cache = s.cache := rfl
@[simp] theorem State.setEvents_fault (es : List Word) (s : State) : (s.setEvents es).fault = s.fault := rfl
@[simp] theorem State.setEvents_refused (es : List Word) (s : State) : (s.setEvents es).refused = s.refused := rfl
@[simp] theorem State.setEvents_trace (es : List Word) (s : State) : (s.setEvents es).trace = s.trace := rfl
@[simp] theorem State.setEvents_results (es : List Word) (s : State) : (s.setEvents es).results = s.results := rfl
@[simp] theorem State.setEvents_draws (es : List Word) (s : State) : (s.setEvents es).draws = s.draws := rfl
@[simp] theorem State.setEvents_events (es : List Word) (s : State) : (s.setEvents es).events = es := rfl

/-! `State.rewind` writes `mask` and `cursor`. -/
@[simp] theorem State.rewind_params (s : State) : s.rewind.params = s.params := rfl
@[simp] theorem State.rewind_mask (s : State) : s.rewind.mask = 0x80#8 := rfl
@[simp] theorem State.rewind_cursor (s : State) : s.rewind.cursor = 0 := rfl
@[simp] theorem State.rewind_sectorReady (s : State) : s.rewind.sectorReady = s.sectorReady := rfl
@[simp] theorem State.rewind_formatting (s : State) : s.rewind.formatting = s.formatting := rfl
@[simp] theorem State.rewind_cache (s : State) : s.rewind.cache = s.cache := rfl
@[simp] theorem State.rewind_fault (s : State) : s.rewind.fault = s.fault := rfl
@[simp] theorem State.rewind_refused (s : State) : s.rewind.refused = s.refused := rfl
@[simp] theorem State.rewind_trace (s : State) : s.rewind.trace = s.trace := rfl
@[simp] theorem State.rewind_results (s : State) : s.rewind.results = s.results := rfl
@[simp] theorem State.rewind_draws (s : State) : s.rewind.draws = s.draws := rfl
@[simp] theorem State.rewind_events (s : State) : s.rewind.events = s.events := rfl

end Sys2Proof.Machine
end

