-- ==== Sys2Proof/Laws/Memory.lean ====
section
/-! SUPPORT. The laws of the Sector Cache: read after write, and that every memory operation keeps the canonical form. -/

namespace Sys2Proof.Machine

theorem Memory.wf_iff (m : Memory) : m.wf = true ↔ (m.map Prod.fst).Pairwise (· < ·) := by
  simp [Memory.wf]

theorem Memory.within_iff (n : Nat) (m : Memory) : m.within n = true ↔ ∀ a ∈ m.map Prod.fst, a < n := by
  simp [Memory.within]

@[simp] theorem Memory.read_nil (a : Nat) : Memory.read [] a = none := rfl

@[simp] theorem Memory.read_invalidated (a : Nat) : Memory.invalidated.read a = none := rfl

/-- Read after write, same index. -/
@[simp] theorem Memory.read_write_same (m : Memory) (a : Nat) (v : Byte) : (m.write a v).read a = some v := by
  induction m with
  | nil => simp [Memory.write, Memory.read]
  | cons c rest ih =>
    unfold Memory.write
    split
    · simp [Memory.read]
    · split
      · simp [Memory.read]
      · rename_i h; simp [Memory.read, Ne.symm h, ih]

/-- Read after write, another index. -/
theorem Memory.read_write_other (m : Memory) {a x : Nat} (v : Byte) (hx : x ≠ a) :
    (m.write a v).read x = m.read x := by
  induction m with
  | nil => simp [Memory.write, Memory.read, Ne.symm hx]
  | cons c rest ih =>
    unfold Memory.write
    split
    · simp [Memory.read, Ne.symm hx]
    · split
      · rename_i h; simp [Memory.read, ← h, Ne.symm hx]
      · simp [Memory.read, ih]

/-- The indices a write lists: the written one and those listed before. -/
theorem Memory.mem_keys_write (m : Memory) (a : Nat) (v : Byte) (x : Nat) :
    x ∈ (m.write a v).map Prod.fst ↔ x = a ∨ x ∈ m.map Prod.fst := by
  induction m with
  | nil => simp [Memory.write]
  | cons c rest ih =>
    unfold Memory.write
    split
    · simp
    · split
      · rename_i h; simp [h]
      · simp only [List.map_cons, List.mem_cons, ih]; tauto

/-- A write keeps the canonical form. -/
theorem Memory.wf_write {m : Memory} (a : Nat) (v : Byte) (h : m.wf = true) : (m.write a v).wf = true := by
  rw [Memory.wf_iff] at h ⊢
  induction m with
  | nil => simp [Memory.write]
  | cons c rest ih =>
    simp only [List.map_cons, List.pairwise_cons] at h
    unfold Memory.write
    split
    · rename_i hlt
      simp only [List.map_cons, List.pairwise_cons, List.mem_cons]
      exact ⟨fun x hx => hx.elim (fun e => e ▸ hlt) (fun hx => lt_trans hlt (h.1 x hx)), h⟩
    · split
      · rename_i he; subst he
        simpa only [List.map_cons, List.pairwise_cons] using h
      · simp only [List.map_cons, List.pairwise_cons]
        refine ⟨fun x hx => ?_, ih h.2⟩
        rcases (Memory.mem_keys_write rest a v x).1 hx with rfl | hx
        · omega
        · exact h.1 x hx

/-- A write inside the cache lists no index outside it. -/
theorem Memory.within_write {m : Memory} {n a : Nat} (v : Byte) (ha : a < n) (h : m.within n = true) :
    (m.write a v).within n = true := by
  rw [Memory.within_iff] at h ⊢
  intro x hx
  rcases (Memory.mem_keys_write m a v x).1 hx with rfl | hx
  · exact ha
  · exact h x hx

/-- EXIT's invalidation has the canonical form. -/
theorem Memory.wf_invalidated : Memory.invalidated.wf = true := by decide

theorem Memory.within_invalidated (n : Nat) : Memory.invalidated.within n = true := rfl

/-- The cache after power-on reset has the canonical form. -/
theorem State.reset_cache_wf : State.reset.cache.wf = true := by decide

end Sys2Proof.Machine
end

