-- ==== Sys2Proof/Laws/Ops.lean ====
section
/-! SUPPORT. For each shared operation, one lemma that says everything it can do. -/

namespace Sys2Proof.Machine

theorem whenLive_of_live {s : State} (body : Host.Outcome State Fault Refusal) (h : s.halted = false) :
    whenLive s body = body := by
  simp [whenLive, h]

theorem whenLive_of_halted {s : State} (body : Host.Outcome State Fault Refusal) (h : s.halted = true) :
    whenLive s body = .next s := by
  simp [whenLive, h]

theorem refuseWord_of_live {s : State} (r : RefusalReason) (h : s.halted = false) :
    refuseWord r s = .next (s.refuse r) :=
  whenLive_of_live _ h

theorem refuseWord_of_halted {s : State} (r : RefusalReason) (h : s.halted = true) :
    refuseWord r s = .next s :=
  whenLive_of_halted _ h

theorem State.active_eq_not_idle (s : State) : s.active = !s.idle := by
  simp [State.active, State.idle]

theorem State.halted_eq_false {s : State} : s.halted = false ↔ s.fault = none ∧ s.refused = none := by
  simp [State.halted]

/-- A read of a valid cell gives its byte and changes nothing. -/
theorem memRead_valid {a : Nat} {s : State} {v : Byte} (ha : a < s.params.cacheBytes)
    (h : s.cache.read a = some v) : memRead a s = .ok (v, s) := by
  simp [memRead, ha, h]

/-- A read of an invalid cell gives a fresh free value. -/
theorem memRead_invalid {a : Nat} {s : State} (ha : a < s.params.cacheBytes)
    (h : s.cache.read a = none) : memRead a s = .ok (Config.draw s.draws, s.countDraw) := by
  simp [memRead, ha, h]

/-- Everything a read can answer. -/
theorem memRead_cases (a : Nat) (s : State) :
    (a < s.params.cacheBytes ∧ ∃ v, s.cache.read a = some v ∧ memRead a s = .ok (v, s)) ∨
      (a < s.params.cacheBytes ∧ s.cache.read a = none ∧ memRead a s = .ok (Config.draw s.draws, s.countDraw)) ∨
      (s.params.cacheBytes ≤ a ∧ memRead a s = .error (.absentCell a)) := by
  rcases Nat.lt_or_ge a s.params.cacheBytes with ha | ha
  · cases h : s.cache.read a with
    | some v => exact .inl ⟨ha, v, rfl, memRead_valid ha h⟩
    | none => exact .inr (.inl ⟨ha, rfl, memRead_invalid ha h⟩)
  · exact .inr (.inr ⟨ha, by simp [memRead, Nat.not_lt.2 ha]⟩)

theorem memWrite_inside {a : Nat} (v : Byte) {s : State} (ha : a < s.params.cacheBytes) :
    memWrite a v s = .ok (s.setCache (s.cache.write a v)) := by
  simp [memWrite, ha]

theorem memWrite_outside {a : Nat} (v : Byte) {s : State} (ha : s.params.cacheBytes ≤ a) :
    memWrite a v s = .error (.absentCell a) := by
  simp [memWrite, Nat.not_lt.2 ha]

theorem landByte_inside {a : Nat} (v : Byte) {s : State} (ha : a < s.params.cacheBytes) :
    landByte a v s = .next (s.setCache (s.cache.write a v)) := by
  simp [landByte, memWrite_inside v ha]

/-- Everything the bit emission of an active tick can answer. -/
theorem emitBit_cases (s : State) :
    (s.cursor < s.params.cacheBytes ∧ ∃ v, s.cache.read s.cursor = some v ∧
        emitBit s = .next (s.emit (selectBit v s.mask)).advance) ∨
      (s.cursor < s.params.cacheBytes ∧ s.cache.read s.cursor = none ∧
        emitBit s = .next (s.countDraw.emit (selectBit (Config.draw s.draws) s.mask)).advance) ∨
      (s.params.cacheBytes ≤ s.cursor ∧ emitBit s = .fault (.absentCell s.cursor)) := by
  rcases memRead_cases s.cursor s with ⟨ha, v, hv, h⟩ | ⟨ha, hn, h⟩ | ⟨ha, h⟩
  · exact .inl ⟨ha, v, hv, by simp [emitBit, h]⟩
  · exact .inr (.inl ⟨ha, hn, by simp [emitBit, h]⟩)
  · exact .inr (.inr ⟨ha, by simp [emitBit, h]⟩)

/-- 40_tick R83: the mask is not at the last bit. -/
theorem State.advance_shift {s : State} (h : s.mask ≠ 0x01#8) : s.advance = s.setMask (s.mask >>> 1) := by
  simp [State.advance, h]

/-- 40_tick R84: the last bit of a byte that is not the sector's last. -/
theorem State.advance_reload {s : State} (h : s.mask = 0x01#8) (hc : s.cursor + 1 ≠ s.params.emitBytes) :
    s.advance = (s.setMask 0x80#8).setCursor (s.cursor + 1) := by
  simp [State.advance, h, hc]

/-- 40_tick R85: the last bit of the sector. -/
theorem State.advance_exhaust {s : State} (h : s.mask = 0x01#8) (hc : s.cursor + 1 = s.params.emitBytes) :
    s.advance = ((s.setMask 0x80#8).setCursor (s.cursor + 1)).setSectorReady false := by
  simp [State.advance, h, hc]

/-- Everything the move of the stream position can do. -/
theorem State.advance_cases (s : State) :
    (s.mask ≠ 0x01#8 ∧ s.advance = s.setMask (s.mask >>> 1)) ∨
      (s.mask = 0x01#8 ∧ s.cursor + 1 ≠ s.params.emitBytes ∧
        s.advance = (s.setMask 0x80#8).setCursor (s.cursor + 1)) ∨
      (s.mask = 0x01#8 ∧ s.cursor + 1 = s.params.emitBytes ∧
        s.advance = ((s.setMask 0x80#8).setCursor (s.cursor + 1)).setSectorReady false) := by
  by_cases h : s.mask = 0x01#8
  · by_cases hc : s.cursor + 1 = s.params.emitBytes
    · exact .inr (.inr ⟨h, hc, State.advance_exhaust h hc⟩)
    · exact .inr (.inl ⟨h, hc, State.advance_reload h hc⟩)
  · exact .inl ⟨h, State.advance_shift h⟩

@[simp] theorem State.advance_params (s : State) : s.advance.params = s.params := by
  rcases s.advance_cases with ⟨_, h⟩ | ⟨_, _, h⟩ | ⟨_, _, h⟩ <;> rw [h] <;> rfl

@[simp] theorem State.advance_formatting (s : State) : s.advance.formatting = s.formatting := by
  rcases s.advance_cases with ⟨_, h⟩ | ⟨_, _, h⟩ | ⟨_, _, h⟩ <;> rw [h] <;> rfl

@[simp] theorem State.advance_cache (s : State) : s.advance.cache = s.cache := by
  rcases s.advance_cases with ⟨_, h⟩ | ⟨_, _, h⟩ | ⟨_, _, h⟩ <;> rw [h] <;> rfl

@[simp] theorem State.advance_fault (s : State) : s.advance.fault = s.fault := by
  rcases s.advance_cases with ⟨_, h⟩ | ⟨_, _, h⟩ | ⟨_, _, h⟩ <;> rw [h] <;> rfl

@[simp] theorem State.advance_refused (s : State) : s.advance.refused = s.refused := by
  rcases s.advance_cases with ⟨_, h⟩ | ⟨_, _, h⟩ | ⟨_, _, h⟩ <;> rw [h] <;> rfl

@[simp] theorem State.advance_trace (s : State) : s.advance.trace = s.trace := by
  rcases s.advance_cases with ⟨_, h⟩ | ⟨_, _, h⟩ | ⟨_, _, h⟩ <;> rw [h] <;> rfl

@[simp] theorem State.advance_results (s : State) : s.advance.results = s.results := by
  rcases s.advance_cases with ⟨_, h⟩ | ⟨_, _, h⟩ | ⟨_, _, h⟩ <;> rw [h] <;> rfl

@[simp] theorem State.advance_draws (s : State) : s.advance.draws = s.draws := by
  rcases s.advance_cases with ⟨_, h⟩ | ⟨_, _, h⟩ | ⟨_, _, h⟩ <;> rw [h] <;> rfl

@[simp] theorem State.advance_events (s : State) : s.advance.events = s.events := by
  rcases s.advance_cases with ⟨_, h⟩ | ⟨_, _, h⟩ | ⟨_, _, h⟩ <;> rw [h] <;> rfl

theorem fetch_nil {s : State} (h : s.events = []) : fetch s = none := by
  simp [fetch, h]

theorem fetch_cons {s : State} {w : Word} {rest : List Word} (h : s.events = w :: rest) :
    fetch s = some (decode w, s.setEvents rest) := by
  simp [fetch, h]

@[simp] theorem cacheIndex_eq (a : BitVec 16) : cacheIndex a = a.toNat := by
  simp [cacheIndex]; omega

end Sys2Proof.Machine
end

