-- ==== Sys2Proof/Laws/PerInstr.lean ====
section
/-! SUPPORT. The family `Encoding`, one lemma per event: the fields of its event word (30_encoding R60 to R64). -/

namespace Sys2Proof.Laws.Encoding

/-- The event word of `i` holds its code in `op`, 0 in `rsv`, and its operands in `data` and `addr`. -/
def Statement (i : Instr) : Prop :=
  opField (encode i) = i.code ∧ rsvField (encode i) = 0#4 ∧ dataField (encode i) = i.data ∧ addrField (encode i) = i.addr

theorem tick : Statement .tick := by unfold Statement; decide
theorem miss : Statement .miss := by unfold Statement; decide
theorem enter : Statement .enter := by unfold Statement; decide
theorem rearm : Statement .rearm := by unfold Statement; decide
theorem exit : Statement .exit := by unfold Statement; decide
theorem setfmt : Statement .setfmt := by unfold Statement; decide
theorem clrfmt : Statement .clrfmt := by unfold Statement; decide
theorem rdstat : Statement .rdstat := by unfold Statement; decide

/-- The bits of a CWRITE's event word, field by field. -/
theorem cwrite_bit (a : BitVec 16) (v : Byte) (k : Nat) :
    (encode (.cwrite a v)).getLsbD k =
      if k < 4 then (0x8#4).getLsbD k
      else if k < 8 then false
      else if k < 16 then v.getLsbD (k - 8)
      else a.getLsbD (k - 16) := by
  simp only [encode, Instr.code, Instr.data, Instr.addr, BitVec.getLsbD_append, Nat.sub_sub, BitVec.getLsbD_zero]
  split
  · rfl
  · repeat' split
    all_goals first
      | rfl
      | omega

theorem cwrite (a : BitVec 16) (v : Byte) : Statement (.cwrite a v) := by
  refine ⟨?_, ?_, ?_, ?_⟩ <;> apply BitVec.eq_of_getLsbD_eq <;> intro j hj <;>
    simp only [opField, rsvField, dataField, addrField, BitVec.getLsbD_extractLsb', cwrite_bit]
  · simp [hj, Instr.code]
  · simp [show 4 + j < 8 by omega]
  · simp [hj, show ¬ 8 + j < 4 by omega, show ¬ 8 + j < 8 by omega, show 8 + j < 16 by omega, Instr.data]
  · simp [hj, show ¬ 16 + j < 4 by omega, show ¬ 16 + j < 8 by omega, show ¬ 16 + j < 16 by omega, Instr.addr]

end Sys2Proof.Laws.Encoding
end

