-- ==== Sys2Proof/Tests/Slice0.lean ====
section
/-! SUPPORT. The model's own tests: the vectors of 95_test_vectors (each named at its test), the WellFormed smoke test, the spec's
encodings written out bit by bit, and for each obligation with hypotheses a witness that meets them. -/

namespace Sys2Proof.Tests

open Sys2Proof.Machine

/-- The state an outcome goes on to. -/
def after : Host.Outcome State Fault Refusal → Option State
  | .next t => some t
  | .fault _ => none
  | .refused _ => none

/-- A machine with `EMIT_BYTES = e`, `CACHE_BYTES = c`, at stream position (`cursor`, `mask`), flags `sr` and `fmt`, and cache `m`:
the state notation of 95_test_vectors. -/
def at' (e c : Nat) (cursor : Nat) (mask : Byte) (sr fmt : Bool) (m : Memory) : State :=
  { State.reset with
    params := { emitBytes := e, cacheBytes := c, mayMissTicks := true }
    cursor := cursor, mask := mask, sectorReady := sr, formatting := fmt, cache := m }

/-- The same with `MAY_MISS_TICKS = false`. -/
def noMiss (s : State) : State := { s with params := { s.params with mayMissTicks := false } }

/-- (cursor, mask, SR, FMT) of the state an outcome goes on to. -/
def position (o : Host.Outcome State Fault Refusal) : Option (Nat × Byte × Bool × Bool) :=
  (after o).map fun t => (t.cursor, t.mask, t.sectorReady, t.formatting)

/-- The trace of the state an outcome goes on to. -/
def trace (o : Host.Outcome State Fault Refusal) : Option (List Bool) := (after o).map State.trace

/-! ## WellFormed smoke test: an ill-formed event for each check -/

theorem test_wf_index_outside_refused :
    Instr.rejection { emitBytes := 2, cacheBytes := 4, mayMissTicks := true } (.cwrite 4#16 0x11#8) =
      some .cacheIndexOutOfRange := by decide

theorem test_wf_index_last_admitted :
    Instr.admitted { emitBytes := 2, cacheBytes := 4, mayMissTicks := true } (.cwrite 3#16 0x11#8) = true := by decide

theorem test_wf_miss_refused :
    Instr.admitted { emitBytes := 2, cacheBytes := 4, mayMissTicks := false } .miss = false := by decide

theorem test_params_bounds_refused :
    ¬ Params.Ok { emitBytes := 0, cacheBytes := 4, mayMissTicks := true } ∧
      ¬ Params.Ok { emitBytes := 5, cacheBytes := 4, mayMissTicks := true } ∧
      ¬ Params.Ok { emitBytes := 5, cacheBytes := 65537, mayMissTicks := true } := by decide

theorem test_cache_out_of_order_refused : Memory.wf [(1, 0xAA#8), (0, 0xD5#8)] = false := by decide

theorem test_cache_repeated_index_refused : Memory.wf [(1, 0xAA#8), (1, 0xD5#8)] = false := by decide

/-! ## Decoding: the words of 30_encoding R61, written out field by field as addr, data, rsv, op -/

theorem test_decode_tick : decode 0b0000000000000000_00000000_0000_0000#32 = .ok .tick := by decide
theorem test_decode_miss : decode 0b0000000000000000_00000000_0000_0001#32 = .ok .miss := by decide
theorem test_decode_enter : decode 0b0000000000000000_00000000_0000_0010#32 = .ok .enter := by decide
theorem test_decode_rearm : decode 0b0000000000000000_00000000_0000_0011#32 = .ok .rearm := by decide
theorem test_decode_exit : decode 0b0000000000000000_00000000_0000_0100#32 = .ok .exit := by decide
theorem test_decode_setfmt : decode 0b0000000000000000_00000000_0000_0101#32 = .ok .setfmt := by decide
theorem test_decode_clrfmt : decode 0b0000000000000000_00000000_0000_0110#32 = .ok .clrfmt := by decide
theorem test_decode_rdstat : decode 0b0000000000000000_00000000_0000_0111#32 = .ok .rdstat := by decide

/-- 30_encoding R72: `CWRITE 0x0001, 0xAA` is the word 0x0001AA08. -/
theorem test_decode_cwrite :
    decode 0b0000000000000001_10101010_0000_1000#32 = .ok (.cwrite 0x0001#16 0xAA#8) := by decide

/-- DEC4. -/
theorem test_decode_cwrite_extremes :
    decodeFor { emitBytes := 1, cacheBytes := 65536, mayMissTicks := true } 0xFFFFFF08#32 =
        .ok (.cwrite 0xFFFF#16 0xFF#8) ∧
      decodeFor { emitBytes := 1, cacheBytes := 65535, mayMissTicks := true } 0xFFFFFF08#32 =
        .error .cacheIndexOutOfRange := by decide

/-- DEC5, DEC6, DEC10. -/
theorem test_decode_reserved_op :
    decode 0x00000009#32 = .error .reservedOp ∧ decode 0x0000000F#32 = .error .reservedOp ∧
      decode 0x00000019#32 = .error .reservedOp := by decide

/-- DEC7, DEC8, DEC9, and a reserved bit in a CWRITE. -/
theorem test_decode_reserved_bits :
    decode 0x00000010#32 = .error .reservedBits ∧ decode 0x00000102#32 = .error .reservedBits ∧
      decode 0x00010000#32 = .error .reservedBits ∧ decode 0x0001AA88#32 = .error .reservedBits := by decide

/-- Every row of the opcode table, with its open bits 0. -/
theorem test_table_rows_decode :
    ([0, 1, 2, 3, 4, 5, 6, 7, 8].map (decodeTableWord 32)) =
      [some .tick, some .miss, some .enter, some .rearm, some .exit, some .setfmt, some .clrfmt, some .rdstat,
       some (.cwrite 0#16 0#8)] := by decide

/-- Every row of the opcode table runs as the first event after reset, whatever the open parameters are. -/
theorem test_table_rows_step :
    ∀ w ∈ [0, 1, 2, 3, 4, 5, 6, 7, 8], (after (step (State.reset.withFetchWord 32 w))).isSome = true := by decide

/-! ## TICK (95_test_vectors section 2.1) -/

/-- T1. -/
theorem test_tick_first_bit :
    trace (exec .tick (at' 2 4 0 0x80#8 true false [(0, 0xD5#8)])) = some [true] ∧
      position (exec .tick (at' 2 4 0 0x80#8 true false [(0, 0xD5#8)])) = some (0, 0x40#8, true, false) := by decide

/-- T3, T5: the last bit of a byte, and of the sector. -/
theorem test_tick_last_bits :
    position (exec .tick (at' 2 4 0 0x01#8 true false [(0, 0x01#8)])) = some (1, 0x80#8, true, false) ∧
      position (exec .tick (at' 2 4 1 0x01#8 true false [(1, 0xAA#8)])) = some (2, 0x80#8, false, false) ∧
      trace (exec .tick (at' 2 4 1 0x01#8 true false [(1, 0xAA#8)])) = some [false] := by decide

/-! ## MISS (section 2.2) -/

/-- M2, M3. -/
theorem test_miss :
    after (exec .miss (at' 1 2 0 0x80#8 false false [])) =
        some { at' 1 2 0 0x80#8 false false [] with trace := [false] } ∧
      after (exec .miss (noMiss (at' 1 2 0 0x40#8 true false []))) =
        some { noMiss (at' 1 2 0 0x40#8 true false []) with refused := some .missNotAdmitted } := by decide

/-! ## Commands (section 2.3) -/

/-- CMD2. -/
theorem test_enter_keeps_the_cursor :
    position (exec .enter (at' 2 4 0 0x10#8 true true [])) = some (0, 0x10#8, true, false) := by decide

/-- CMD4, CMD5. -/
theorem test_rearm :
    position (exec .rearm (at' 2 4 1 0x04#8 true false [])) = some (0, 0x80#8, true, false) ∧
      position (exec .rearm (at' 2 4 2 0x80#8 false true [])) = some (0, 0x80#8, true, true) := by decide

/-- CMD6. -/
theorem test_exit :
    after (exec .exit (at' 2 4 1 0x08#8 true true [(0, 0xD5#8), (1, 0xAA#8)])) =
      some (at' 2 4 0 0x80#8 false false []) := by decide

/-- CMD7. -/
theorem test_setfmt :
    position (exec .setfmt (at' 2 4 0 0x08#8 true false [])) = some (0, 0x08#8, true, true) := by decide

/-- CMD8. -/
theorem test_clrfmt :
    position (exec .clrfmt (at' 2 4 0 0x08#8 true true [])) = some (0, 0x08#8, true, false) := by decide

/-- CMD9, and the STATUS values of CMD1 and CMD5. -/
theorem test_rdstat :
    (after (exec .rdstat (at' 2 4 2 0x80#8 false false []))).map State.results = some [0x00000000#32] ∧
      (after (exec .rdstat (at' 2 4 0 0x80#8 true false []))).map State.results = some [0x00000001#32] ∧
      (after (exec .rdstat (at' 2 4 0 0x80#8 true true []))).map State.results = some [0x00000003#32] := by decide

/-- CMD10, CMD11: a cell below, between and above those listed. -/
theorem test_cwrite :
    (after (exec (.cwrite 1#16 0xAA#8) (at' 2 4 0 0x80#8 false false [(0, 0xD5#8), (3, 0x11#8)]))).map State.cache =
      some [(0, 0xD5#8), (1, 0xAA#8), (3, 0x11#8)] ∧
    (after (exec (.cwrite 3#16 0x11#8) (at' 2 4 0 0x80#8 false false [(3, 0xFF#8)]))).map State.cache =
      some [(3, 0x11#8)] := by decide

/-- CMD12. -/
theorem test_cwrite_outside :
    after (exec (.cwrite 4#16 0x11#8) (at' 2 4 0 0x80#8 false false [])) =
      some { at' 2 4 0 0x80#8 false false [] with refused := some .cacheIndexOutOfRange } := by decide

/-! ## The step and the marks -/

/-- DEC10 as a step: the word is taken, the first reason recorded. -/
theorem test_step_refuses :
    after (step { at' 2 4 0 0x80#8 true false [] with events := [0x00000019#32, 0x00000000#32] }) =
      some { at' 2 4 0 0x80#8 true false [] with refused := some .reservedOp, events := [0x00000000#32] } := by decide

/-! ## The assembler (30_encoding R72, R73) -/

/-- R72's example, with a comment as in program P1. -/
theorem test_asm_cwrite :
    parseLine ['C', 'W', 'R', 'I', 'T', 'E', ' ', '0', 'x', '0', '0', '0', '1', ',', ' ', '0', 'x', 'A', 'A', ' ', ';', ' ', 'x'] =
      some (.event (.cwrite 0x0001#16 0xAA#8)) := by decide

theorem test_asm_ticks :
    parseLine ['T', 'I', 'C', 'K', 'S', ' ', '1', '6'] = some (.ticks 16) ∧
      parseLine ['T', 'I', 'C', 'K'] = some (.event .tick) ∧ parseLine ['T', 'O', 'C', 'K'] = none := by decide

/-- The first three words of P1, from `LOAD 0, 0xD5, 0xAA` and `ENTER`. -/
theorem test_asm_load :
    (AsmLine.load 0 [0xD5#8, 0xAA#8]).words { emitBytes := 2, cacheBytes := 4, mayMissTicks := true } =
      some [0x0000D508#32, 0x0001AA08#32] := by decide

theorem test_asm_refresh_and_sector :
    (AsmLine.refresh [0xA5#8]).expand { emitBytes := 1, cacheBytes := 2, mayMissTicks := true } =
        some [.cwrite 0#16 0xA5#8, .rearm] ∧
      (AsmLine.refresh [0xA5#8]).expand { emitBytes := 2, cacheBytes := 2, mayMissTicks := true } = none ∧
      (AsmLine.sector.expand { emitBytes := 2, cacheBytes := 2, mayMissTicks := true }).map List.length = some 16 := by
  decide

/-! ## Witnesses: for each obligation with hypotheses, a state and operands that meet them together -/

/-- Mid-sector, ready, both bytes valid. -/
def ready : State := at' 2 4 0 0x08#8 true false [(0, 0xD5#8), (1, 0xAA#8)]

/-- At the last bit of byte `c`. -/
def lastBit (c : Nat) : State := at' 2 4 c 0x01#8 true false [(0, 0xD5#8), (1, 0xAA#8)]

/-- Exhausted. -/
def exhausted : State := at' 2 4 2 0x80#8 false false [(0, 0xD5#8), (1, 0xAA#8)]

/-- Ready with nothing left to emit (T10). -/
def pastEnd : State := at' 2 4 2 0x80#8 true false []

/-- Faulted (T11). -/
def faulted : State := { pastEnd with fault := some .cursorOutOfRange }

theorem witness_StepRunsTheDecodedEvent :
    ({ ready with events := [0x00000003#32, 0x00000000#32] } : State).events = 0x00000003#32 :: [0x00000000#32] ∧
      decode 0x00000003#32 = .ok .rearm := by decide

theorem witness_RefusedWordSetsOnlyTheMark :
    ({ ready with events := [0x00040008#32] } : State).halted = false ∧
      ({ ready with events := [0x00040008#32] } : State).events = 0x00040008#32 :: [] ∧
      decodeFor ready.params 0x00040008#32 = .error .cacheIndexOutOfRange := by decide

theorem witness_StepWithNoEventChangesNothing : ready.events = [] := by decide

theorem witness_MarkedStateIsQuiescent :
    faulted.halted = true ∧ ({ faulted with events := [0x00000002#32] } : State).halted = true ∧
      ({ ready with refused := some .reservedOp } : State).halted = true := by decide

theorem witness_StepAlwaysHasANextState : ready.params.Ok := by decide

theorem ready_inv : Inv ready := ⟨by decide, by decide, by decide, by decide, by decide, by decide⟩

theorem witness_StepKeepsTheReachableForm :
    Inv { ready with events := [0x00000000#32] } ∧
      step { ready with events := [0x00000000#32] } = .next { ready with mask := 0x04#8, trace := [false] } :=
  ⟨⟨by decide, by decide, by decide, by decide, by decide, by decide⟩, rfl⟩

theorem witness_EncodeOfDecodeIsTheWord : decode 0xFFFFFF08#32 = .ok (.cwrite 0xFFFF#16 0xFF#8) := by decide

/-- One word for each clause, at the values where the clauses meet. -/
theorem witness_DecodeRefusesByTheFirstFailingCheck :
    decodeFor ready.params 0x00000009#32 = .error .reservedOp ∧
      decodeFor ready.params 0x00000018#32 = .error .reservedBits ∧
      decodeFor ready.params 0x00000107#32 = .error .reservedBits ∧
      decodeFor ready.params 0x00040008#32 = .error .cacheIndexOutOfRange ∧
      decodeFor (noMiss ready).params 0x00000001#32 = .error .missNotAdmitted ∧
      decodeFor ready.params 0x00030008#32 = .ok (.cwrite 3#16 0#8) ∧
      decodeFor ready.params 0x00000001#32 = .ok .miss := by decide

/-- Idle by each of the two flags. -/
theorem witness_IdleTickChangesOnlyTheTrace :
    (exhausted.halted = false ∧ exhausted.sectorReady = false) ∧
      (({ ready with formatting := true } : State).halted = false ∧
        ({ ready with formatting := true } : State).formatting = true) := by decide

/-- Also `k = 4` for the mask 0x08. -/
theorem witness_ActiveTickEmitsTheBitUnderTheMask :
    ready.params.Ok ∧ ready.halted = false ∧ ready.sectorReady = true ∧ ready.formatting = false ∧
      ready.cursor < ready.params.emitBytes ∧ ready.cache.read ready.cursor = some 0xD5#8 ∧
      4 < 8 ∧ ready.mask = 0x80#8 >>> 4 := by decide

theorem witness_ActiveTickOnAnInvalidCellEmitsAFreeBit :
    (at' 1 2 0 0x80#8 true false []).params.Ok ∧ (at' 1 2 0 0x80#8 true false []).halted = false ∧
      (at' 1 2 0 0x80#8 true false []).sectorReady = true ∧ (at' 1 2 0 0x80#8 true false []).formatting = false ∧
      (at' 1 2 0 0x80#8 true false []).cursor < (at' 1 2 0 0x80#8 true false []).params.emitBytes ∧
      (at' 1 2 0 0x80#8 true false []).cache.read (at' 1 2 0 0x80#8 true false []).cursor = none := by decide

theorem witness_ActiveTickShiftsTheMask :
    ready.params.Ok ∧ ready.halted = false ∧ ready.sectorReady = true ∧ ready.formatting = false ∧
      ready.cursor < ready.params.emitBytes ∧ ready.mask ≠ 0x01#8 := by decide

/-- In the first byte and in the sector's last. -/
theorem witness_ActiveTickReloadsTheMaskAndAdvancesTheCursor :
    ∀ c ∈ [0, 1], (lastBit c).params.Ok ∧ (lastBit c).halted = false ∧ (lastBit c).sectorReady = true ∧
      (lastBit c).formatting = false ∧ (lastBit c).cursor < (lastBit c).params.emitBytes ∧
      (lastBit c).mask = 0x01#8 := by decide

/-- Each side of the equivalence. -/
theorem witness_OnlyTheLastBitClearsSectorReady :
    position (exec .tick (lastBit 1)) = some (2, 0x80#8, false, false) ∧
      position (exec .tick (lastBit 0)) = some (1, 0x80#8, true, false) ∧
      ∀ c ∈ [0, 1], (lastBit c).params.Ok ∧ (lastBit c).halted = false ∧ (lastBit c).sectorReady = true ∧
        (lastBit c).formatting = false ∧ (lastBit c).cursor < (lastBit c).params.emitBytes := by decide

theorem witness_ActiveTickFrame :
    ready.params.Ok ∧ ready.halted = false ∧ ready.sectorReady = true ∧ ready.formatting = false ∧
      ready.cursor < ready.params.emitBytes := by decide

/-- T10. -/
theorem witness_ActiveTickPastTheFieldRecordsTheFault :
    pastEnd.halted = false ∧ pastEnd.sectorReady = true ∧ pastEnd.formatting = false ∧
      pastEnd.params.emitBytes ≤ pastEnd.cursor := by decide

theorem witness_ActiveTickMovesTheStreamByOneBit :
    ready.params.Ok ∧ ready.halted = false ∧ ready.sectorReady = true ∧ ready.formatting = false ∧
      ready.cursor < ready.params.emitBytes ∧ 4 < 8 ∧ ready.mask = 0x80#8 >>> 4 ∧
      (lastBit 0).mask = 0x80#8 >>> 7 := by decide

theorem witness_IdleTickTakesNothingFromTheCache :
    exhausted.sectorReady = false ∧ exec .tick exhausted = .next { exhausted with trace := [false] } :=
  ⟨rfl, rfl⟩

theorem witness_IdleGapSendsOnlyIdleWindows : exhausted.halted = false ∧ exhausted.sectorReady = false := by decide

theorem witness_SectorIsSentByteByByteMsbFirst :
    exhausted.params.Ok ∧ exhausted.halted = false ∧ exhausted.formatting = false ∧
      [0xD5#8, 0xAA#8].length = exhausted.params.emitBytes ∧
      ∀ a, a < exhausted.params.emitBytes → exhausted.cache.read a = [0xD5#8, 0xAA#8][a]? := by decide

/-- `j` at each end of its range. -/
theorem witness_TicksAfterRearmStandAtTheirBit :
    exhausted.params.Ok ∧ exhausted.halted = false ∧ exhausted.formatting = false ∧
      0 ≤ 8 * exhausted.params.emitBytes ∧ 16 ≤ 8 * exhausted.params.emitBytes := by decide

theorem witness_ReceiverRecoversTheSector :
    exhausted.params.Ok ∧ exhausted.halted = false ∧ exhausted.formatting = false ∧
      [0xD5#8, 0xAA#8].length = exhausted.params.emitBytes ∧
      ∀ a, a < exhausted.params.emitBytes → exhausted.cache.read a = [0xD5#8, 0xAA#8][a]? := by decide

theorem witness_FormattingHoldFreezesTheStream : ready.halted = false ∧ ready.formatting = false := by decide

theorem witness_WriteUnderTheCursorIsSeenByTheNextTick :
    ready.params.Ok ∧ ready.halted = false ∧ ready.sectorReady = true ∧ ready.formatting = false ∧
      ready.cursor < ready.params.emitBytes ∧ (0#16).toNat = ready.cursor := by decide

theorem witness_AdmittedMissSendsAnEmptyWindow : ready.halted = false ∧ ready.params.mayMissTicks = true := by decide

theorem witness_UnadmittedMissIsRefused :
    (noMiss ready).halted = false ∧ (noMiss ready).params.mayMissTicks = false := by decide

/-- The one hypothesis of EnterSetsTheEntryFlags, RearmRewindsAndEnables, ExitRewindsClearsTheFlagsAndInvalidates,
SetfmtRaisesTheHold, ClrfmtReleasesTheHold and RdstatReturnsTheFlags. -/
theorem witness_commands : ready.halted = false ∧ exhausted.halted = false := by decide

theorem witness_EnterAtTheEndMakesTheNextTickFault :
    exhausted.halted = false ∧ exhausted.cursor = exhausted.params.emitBytes := by decide

/-- One for each command of the list. -/
theorem witness_CommandsAreIdempotent :
    exec .enter exhausted = .next { exhausted with sectorReady := true } ∧
      exec .rearm exhausted = .next { exhausted with cursor := 0, sectorReady := true } ∧
      exec .exit exhausted = .next (at' 2 4 0 0x80#8 false false []) ∧
      exec .setfmt exhausted = .next { exhausted with formatting := true } ∧
      exec .clrfmt exhausted = .next exhausted :=
  ⟨rfl, rfl, rfl, rfl, rfl⟩

/-- Both clauses: the last index of the cache, and an event that is no CWRITE (EXIT among them). -/
theorem witness_OnlyCwriteWritesACell :
    ready.halted = false ∧ (3#16).toNat < ready.params.cacheBytes ∧
      exec .enter exhausted = .next { exhausted with sectorReady := true } ∧
      exec .exit exhausted = .next (at' 2 4 0 0x80#8 false false []) :=
  ⟨rfl, by decide, rfl, rfl⟩

theorem witness_CwriteOutsideTheCacheIsRefused :
    ready.halted = false ∧ ready.params.cacheBytes ≤ (4#16).toNat := by decide

/-- Caches that agree below `EMIT_BYTES = 2` and differ at index 2. -/
theorem witness_BytesPastTheFieldAreNeverRead :
    (∀ a, a < ready.params.emitBytes →
      Memory.read [(0, 0xD5#8), (1, 0xAA#8), (2, 0x77#8)] a = ready.cache.read a) ∧
      exec .tick ready = .next { ready with mask := 0x04#8, trace := [false] } :=
  ⟨by decide, rfl⟩

theorem witness_RefreshLoadsTheSectorAndRearms :
    exhausted.params.Ok ∧ exhausted.halted = false ∧ [0x96#8, 0xFF#8].length = exhausted.params.emitBytes := by decide

/-- For each clause an event it is about: RDSTAT for both lists, TICK at the sector's last bit for the third. -/
theorem witness_OnlyTheNamedEventsWriteAFlag :
    exec .rdstat exhausted = .next { exhausted with results := [0x00000000#32] } ∧
      Instr.rdstat ∉ [Instr.tick, .enter, .rearm, .exit] ∧ Instr.rdstat ∉ [Instr.enter, .exit, .setfmt, .clrfmt] ∧
      exec .tick (lastBit 1) =
        .next { lastBit 1 with cursor := 2, mask := 0x80#8, sectorReady := false, trace := [false] } :=
  ⟨rfl, by decide, by decide, rfl⟩

/-- One event for each alternative. -/
theorem witness_OnlyActiveTicksAndRewindsMoveTheStream :
    exec .enter exhausted = .next { exhausted with sectorReady := true } ∧
      exec .tick ready = .next { ready with mask := 0x04#8, trace := [false] } ∧
      exec .rearm exhausted = .next { exhausted with cursor := 0, sectorReady := true } :=
  ⟨rfl, rfl, rfl⟩

/-- Each side of the condition: a TICK that emits, a TICK that faults, and a command. -/
theorem witness_OneWindowPerTickOrMiss :
    ready.halted = false ∧ pastEnd.halted = false ∧
      exec .tick ready = .next { ready with mask := 0x04#8, trace := [false] } ∧
      exec .tick pastEnd = .next faulted ∧ exec .setfmt ready = .next { ready with formatting := true } :=
  ⟨rfl, rfl, rfl, rfl, rfl⟩

theorem witness_NotReadyStaysUntilEnterOrRearm :
    exhausted.sectorReady = false ∧ Instr.tick ≠ .enter ∧ Instr.tick ≠ .rearm ∧
      exec .tick exhausted = .next { exhausted with trace := [false] } :=
  ⟨rfl, by decide, by decide, rfl⟩

theorem witness_ReadyAtTheEndComesOnlyFromEnter :
    exhausted.params.Ok ∧ exec .enter exhausted = .next { exhausted with sectorReady := true } ∧
      ¬ (exhausted.sectorReady = true ∧ exhausted.cursor = exhausted.params.emitBytes) ∧
      (({ exhausted with sectorReady := true } : State).sectorReady = true ∧
        ({ exhausted with sectorReady := true } : State).cursor = exhausted.params.emitBytes) :=
  ⟨by decide, rfl, by decide, by decide⟩

/-- In each of the Controller's states, ENTER and REARM among the events. -/
theorem witness_ProtocolNeverFaults :
    (ready.params.Ok ∧ ready.halted = false ∧ Controller.Keeps .active ready ∧
      Instr.admitted ready.params .tick = true ∧ Controller.next .active .tick ready = some .active) ∧
    (exhausted.params.Ok ∧ exhausted.halted = false ∧ Controller.Keeps .active exhausted ∧
      Instr.admitted exhausted.params .rearm = true ∧ Controller.next .active .rearm exhausted = some .active) ∧
    ((at' 2 4 0 0x80#8 false false []).params.Ok ∧ (at' 2 4 0 0x80#8 false false []).halted = false ∧
      Controller.Keeps .idle (at' 2 4 0 0x80#8 false false []) ∧
      Instr.admitted (at' 2 4 0 0x80#8 false false []).params .enter = true ∧ Controller.next .idle .enter (at' 2 4 0 0x80#8 false false []) = some .active) :=
  ⟨⟨by decide, by decide, fun _ => by decide, by decide, rfl⟩,
    ⟨by decide, by decide, fun h => Bool.noConfusion h, by decide, rfl⟩,
    ⟨by decide, by decide, ⟨rfl, rfl, rfl⟩, by decide, rfl⟩⟩

end Sys2Proof.Tests
end

section
/-! PROOFS of the family 10_state: what a step that answers next can have done, event by event, and from it which events write a
flag (10_state R26 to R28). -/

namespace Sys2Proof.Machine

/-! Inversion: everything an event that answers next can have done. -/

theorem whenLive_next_cases {s t : State} {body : Host.Outcome State Fault Refusal} (h : whenLive s body = .next t) :
    (s.halted = true ∧ t = s) ∨ (s.halted = false ∧ body = .next t) := by
  cases hs : s.halted with
  | true => rw [whenLive_of_halted body hs] at h; cases h; exact .inl ⟨rfl, rfl⟩
  | false => rw [whenLive_of_live body hs] at h; exact .inr ⟨rfl, h⟩

/-- A view of the state that the body keeps is kept by the event, marked state or not. -/
theorem whenLive_next_keeps {α : Type} (f : State → α) {s t : State} {body : Host.Outcome State Fault Refusal}
    (h : whenLive s body = .next t) (hb : body = .next t → f t = f s) : f t = f s := by
  rcases whenLive_next_cases h with ⟨_, rfl⟩ | ⟨_, hbody⟩
  · rfl
  · exact hb hbody

/-- The form of `whenLive_next_keeps` for a body that always answers the same state. -/
theorem whenLive_update_keeps {α : Type} (f : State → α) {s t u : State}
    (h : whenLive s (.next u) = .next t) (hu : f u = f s) : f t = f s :=
  whenLive_next_keeps f h fun hb => by cases hb; exact hu

theorem landByte_next {a : Nat} {v : Byte} {s t : State} (h : landByte a v s = .next t) :
    t = s.setCache (s.cache.write a v) := by
  by_cases ha : a < s.params.cacheBytes
  · rw [landByte_inside v ha] at h; cases h; rfl
  · simp [landByte, memWrite_outside v (Nat.le_of_not_lt ha)] at h

theorem execCwrite_next_cases {a : BitVec 16} {v : Byte} {s t : State} (h : execCwrite a v s = .next t) :
    (s.halted = true ∧ t = s) ∨
      (s.halted = false ∧ s.params.cacheBytes ≤ a.toNat ∧ t = s.refuse .cacheIndexOutOfRange) ∨
      (s.halted = false ∧ a.toNat < s.params.cacheBytes ∧ t = s.setCache (s.cache.write a.toNat v)) := by
  rcases whenLive_next_cases h with hs | ⟨hs, hb⟩
  · exact .inl hs
  · rw [cacheIndex_eq] at hb
    split at hb
    case isTrue ha => cases hb; exact .inr (.inl ⟨hs, ha, rfl⟩)
    case isFalse ha => exact .inr (.inr ⟨hs, Nat.lt_of_not_le ha, landByte_next hb⟩)

/-- An emitted bit leaves the state but for the draw count, the trace and the stream position. -/
theorem emitBit_next {s t : State} (h : emitBit s = .next t) :
    ∃ b u, (u = s ∨ u = s.countDraw) ∧ t = (State.emit b u).advance := by
  rcases emitBit_cases s with ⟨_, v, _, hv⟩ | ⟨_, _, hd⟩ | ⟨_, hf⟩
  · rw [hv] at h; cases h; exact ⟨_, s, .inl rfl, rfl⟩
  · rw [hd] at h; cases h; exact ⟨_, s.countDraw, .inr rfl, rfl⟩
  · rw [hf] at h; cases h

theorem execTick_next_cases {s t : State} (h : execTick s = .next t) :
    (s.halted = true ∧ t = s) ∨
      (s.halted = false ∧ s.idle = true ∧ t = s.emit false) ∨
      (s.halted = false ∧ s.idle = false ∧ s.params.emitBytes ≤ s.cursor ∧ t = s.raise .cursorOutOfRange) ∨
      (s.halted = false ∧ s.idle = false ∧ s.cursor < s.params.emitBytes ∧ emitBit s = .next t) := by
  rcases whenLive_next_cases h with hs | ⟨hs, hb⟩
  · exact .inl hs
  · split at hb
    case isTrue hi => cases hb; exact .inr (.inl ⟨hs, hi, rfl⟩)
    case isFalse hi =>
      have hi := Bool.eq_false_of_not_eq_true hi
      split at hb
      case isTrue hc => cases hb; exact .inr (.inr (.inl ⟨hs, hi, hc, rfl⟩))
      case isFalse hc => exact .inr (.inr (.inr ⟨hs, hi, Nat.lt_of_not_le hc, hb⟩))

theorem State.idle_eq_false {s : State} : s.idle = false ↔ s.sectorReady = true ∧ s.formatting = false := by
  simp [State.idle]

/-! The flags under a TICK: only the move past the sector's last bit writes one. -/

/-- 40_tick R85: the move of the stream position writes `sector_ready` at the sector's last bit only. -/
theorem State.advance_sectorReady_cases (s : State) :
    s.advance.sectorReady = s.sectorReady ∨
      (s.mask = 0x01#8 ∧ s.cursor + 1 = s.params.emitBytes ∧ s.advance.sectorReady = false) := by
  rcases s.advance_cases with ⟨_, h⟩ | ⟨_, _, h⟩ | ⟨hm, hc, h⟩
  · exact .inl (by rw [h]; rfl)
  · exact .inl (by rw [h]; rfl)
  · exact .inr ⟨hm, hc, by rw [h]; rfl⟩

theorem emitBit_next_formatting {s t : State} (h : emitBit s = .next t) : t.formatting = s.formatting := by
  obtain ⟨b, u, rfl | rfl, rfl⟩ := emitBit_next h <;> simp

theorem emitBit_next_sectorReady_cases {s t : State} (h : emitBit s = .next t) :
    t.sectorReady = s.sectorReady ∨
      (s.mask = 0x01#8 ∧ s.cursor + 1 = s.params.emitBytes ∧ t.sectorReady = false) := by
  obtain ⟨b, u, rfl | rfl, rfl⟩ := emitBit_next h
  · exact (u.emit b).advance_sectorReady_cases
  · exact (s.countDraw.emit b).advance_sectorReady_cases

theorem execTick_next_formatting {s t : State} (h : execTick s = .next t) : t.formatting = s.formatting := by
  rcases execTick_next_cases h with ⟨_, rfl⟩ | ⟨_, _, rfl⟩ | ⟨_, _, _, rfl⟩ | ⟨_, _, _, hb⟩
  · rfl
  · rfl
  · rfl
  · exact emitBit_next_formatting hb

/-- 10_state R26: a TICK writes `sector_ready` only as the active tick that exhausts the sector, and then clears it. -/
theorem execTick_next_sectorReady_cases {s t : State} (h : execTick s = .next t) :
    t.sectorReady = s.sectorReady ∨
      (s.sectorReady = true ∧ s.formatting = false ∧ s.mask = 0x01#8 ∧ s.cursor + 1 = s.params.emitBytes ∧
        t.sectorReady = false) := by
  rcases execTick_next_cases h with ⟨_, rfl⟩ | ⟨_, _, rfl⟩ | ⟨_, _, _, rfl⟩ | ⟨_, hi, _, hb⟩
  · exact .inl rfl
  · exact .inl rfl
  · exact .inl rfl
  · obtain ⟨hr, hf⟩ := State.idle_eq_false.1 hi
    exact (emitBit_next_sectorReady_cases hb).imp_right fun ⟨hm, hc, ht⟩ => ⟨hr, hf, hm, hc, ht⟩

/-! The flags under MISS and CWRITE, whose bodies branch. -/

theorem execMiss_next_flags {s t : State} (h : execMiss s = .next t) :
    t.sectorReady = s.sectorReady ∧ t.formatting = s.formatting :=
  ⟨whenLive_update_keeps State.sectorReady h (by split <;> rfl),
    whenLive_update_keeps State.formatting h (by split <;> rfl)⟩

theorem execCwrite_next_flags {a : BitVec 16} {v : Byte} {s t : State} (h : execCwrite a v s = .next t) :
    t.sectorReady = s.sectorReady ∧ t.formatting = s.formatting := by
  rcases execCwrite_next_cases h with ⟨_, rfl⟩ | ⟨_, _, rfl⟩ | ⟨_, _, rfl⟩
  · exact ⟨rfl, rfl⟩
  · exact ⟨rfl, rfl⟩
  · exact ⟨rfl, rfl⟩

/-! Each flag, over every event. -/

/-- 10_state R26: the events that are not listed for `sector_ready` keep it. -/
theorem exec_next_sectorReady {i : Instr} {s t : State} (hi : i ∉ [Instr.tick, .enter, .rearm, .exit])
    (h : exec i s = .next t) : t.sectorReady = s.sectorReady := by
  cases i with
  | tick | enter | rearm | exit => simp at hi
  | miss => exact (execMiss_next_flags h).1
  | setfmt => exact whenLive_update_keeps State.sectorReady h rfl
  | clrfmt => exact whenLive_update_keeps State.sectorReady h rfl
  | rdstat => exact whenLive_update_keeps State.sectorReady h rfl
  | cwrite a v => exact (execCwrite_next_flags h).1

/-- 10_state R27: the events that are not listed for `formatting` keep it. -/
theorem exec_next_formatting {i : Instr} {s t : State} (hi : i ∉ [Instr.enter, .exit, .setfmt, .clrfmt])
    (h : exec i s = .next t) : t.formatting = s.formatting := by
  cases i with
  | enter | exit | setfmt | clrfmt => simp at hi
  | tick => exact execTick_next_formatting h
  | miss => exact (execMiss_next_flags h).2
  | rearm => exact whenLive_update_keeps State.formatting h rfl
  | rdstat => exact whenLive_update_keeps State.formatting h rfl
  | cwrite a v => exact (execCwrite_next_flags h).2

/-- Settles O44: each flag is kept by every event not listed for it, and TICK's one write is the exhausting tick's. -/
theorem onlyTheNamedEventsWriteAFlag : Obligations.OnlyTheNamedEventsWriteAFlag := by
  intro i s t h
  exact ⟨fun hi => exec_next_sectorReady hi h, fun hi => exec_next_formatting hi h,
    fun hi => execTick_next_sectorReady_cases (by subst hi; exact h)⟩

end Sys2Proof.Machine
end

section
/-! PROOFS of the family 20_memory: which events write a cell of the Sector Cache (20_memory R46, R57). -/

namespace Sys2Proof.Machine

/-- 41_control R110: a CWRITE inside the cache is the one write of its cell. -/
theorem execCwrite_inside {a : BitVec 16} {s : State} (v : Byte) (hs : s.halted = false)
    (ha : a.toNat < s.params.cacheBytes) :
    execCwrite a v s = .next (s.setCache (s.cache.write a.toNat v)) := by
  rw [execCwrite, whenLive_of_live _ hs, cacheIndex_eq, if_neg (Nat.not_le.2 ha), landByte_inside v ha]

/-! The cache under the events whose bodies branch, and under EXIT. -/

theorem emitBit_next_cache {s t : State} (h : emitBit s = .next t) : t.cache = s.cache := by
  obtain ⟨b, u, rfl | rfl, rfl⟩ := emitBit_next h <;> simp

theorem execTick_next_cache {s t : State} (h : execTick s = .next t) : t.cache = s.cache := by
  rcases execTick_next_cases h with ⟨_, rfl⟩ | ⟨_, _, rfl⟩ | ⟨_, _, _, rfl⟩ | ⟨_, _, _, hb⟩
  · rfl
  · rfl
  · rfl
  · exact emitBit_next_cache hb

theorem execMiss_next_cache {s t : State} (h : execMiss s = .next t) : t.cache = s.cache :=
  whenLive_update_keeps State.cache h (by split <;> rfl)

/-- 41_control R101: EXIT invalidates every cell, unless a mark makes it change nothing. -/
theorem execExit_next_cache {s t : State} (h : execExit s = .next t) :
    t.cache = s.cache ∨ t.cache = Memory.invalidated := by
  rcases whenLive_next_cases h with ⟨_, rfl⟩ | ⟨_, hb⟩
  · exact .inl rfl
  · cases hb; exact .inr rfl

/-- 20_memory R46: only CWRITE and EXIT can write the cache, and EXIT only by invalidating it. -/
theorem exec_next_cache {i : Instr} {s t : State} (hi : ∀ a v, i ≠ .cwrite a v) (h : exec i s = .next t) :
    t.cache = s.cache ∨ (i = .exit ∧ t.cache = Memory.invalidated) := by
  cases i with
  | tick => exact .inl (execTick_next_cache h)
  | miss => exact .inl (execMiss_next_cache h)
  | enter => exact .inl (whenLive_update_keeps State.cache h rfl)
  | rearm => exact .inl (whenLive_update_keeps State.cache h rfl)
  | exit => exact (execExit_next_cache h).imp_right fun ht => ⟨rfl, ht⟩
  | setfmt => exact .inl (whenLive_update_keeps State.cache h rfl)
  | clrfmt => exact .inl (whenLive_update_keeps State.cache h rfl)
  | rdstat => exact .inl (whenLive_update_keeps State.cache h rfl)
  | cwrite a v => exact absurd rfl (hi a v)

/-- Settles O40: a CWRITE inside the cache is one cell's write, and no other event writes the cache but EXIT, which
invalidates it. -/
theorem onlyCwriteWritesACell : Obligations.OnlyCwriteWritesACell := by
  refine ⟨fun s a v hs ha => ?_, fun i s t hi h x => ?_⟩
  · exact ⟨_, execCwrite_inside v hs ha, Memory.read_write_same _ _ _, fun x hx => Memory.read_write_other _ v hx, rfl⟩
  · rcases exec_next_cache hi h with hc | ⟨hexit, hc⟩
    · exact .inl (by rw [hc])
    · exact .inr ⟨hexit, by rw [hc, Memory.read_invalidated]⟩

end Sys2Proof.Machine
end

section
/-! PROOFS of the family 30_encoding: the bit an active TICK emits is the one its mask selects (30_encoding R67). -/

namespace Sys2Proof.Machine

/-- 40_tick R79, R80: with the cursor inside the sector an active TICK goes on to emit a bit. -/
theorem execTick_active {s : State} (hs : s.halted = false) (hi : s.idle = false)
    (hc : s.cursor < s.params.emitBytes) : execTick s = emitBit s := by
  simp [execTick, whenLive_of_live _ hs, hi, Nat.not_le.2 hc]

/-- 40_tick R81, R82: over a valid cell the window is the mask's bit of its byte. -/
theorem emitBit_valid {s : State} {v : Byte} (hc : s.cursor < s.params.cacheBytes)
    (hv : s.cache.read s.cursor = some v) :
    emitBit s = .next (s.emit (selectBit v s.mask)).advance := by
  simp [emitBit, memRead_valid hc hv]

theorem selectBit_eq_decide (b mask : Byte) : selectBit b mask = decide (b &&& mask ≠ 0x00#8) := by
  rw [selectBit, Bool.eq_iff_iff, bne_iff_ne, decide_eq_true_iff]

theorem selectBit_twoPow (b : Byte) {j : Nat} (hj : j < 8) : selectBit b (BitVec.twoPow 8 j) = b.getLsbD j := by
  have hne : BitVec.twoPow 8 j ≠ 0x00#8 := fun h => by simpa [hj] using congrArg (·.getLsbD j) h
  rw [selectBit, BitVec.and_twoPow]
  cases b.getLsbD j with
  | true => simpa using hne
  | false => simp

/-- 10_state R21: the mask after `k` shifts has bit `7 - k` set and no other. -/
theorem oneHotMask_eq_twoPow : ∀ k, k < 8 → 0x80#8 >>> k = BitVec.twoPow 8 (7 - k) := by decide

/-- Settles O14: the active TICK emits the bit `selectBit` gives, which under a shifted one-hot mask is a bit of the byte. -/
theorem activeTickEmitsTheBitUnderTheMask : Obligations.ActiveTickEmitsTheBitUnderTheMask := by
  intro s v ⟨_, hsize, _⟩ hs hr hf hc hv
  have htick : execTick s = .next (s.emit (selectBit v s.mask)).advance := by
    rw [execTick_active hs (State.idle_eq_false.2 ⟨hr, hf⟩) hc, emitBit_valid (Nat.lt_of_lt_of_le hc hsize) hv]
  refine ⟨_, htick, ?_, fun k hk hm => ?_⟩
  · rw [State.advance_trace, State.emit_trace, selectBit_eq_decide]
  · rw [State.advance_trace, State.emit_trace, hm, oneHotMask_eq_twoPow k hk, selectBit_twoPow v (by omega)]

end Sys2Proof.Machine
end

section
/-! PROOFS of the family 40_tick: the idle gate (40_tick R77), and where an active TICK leaves the stream position (40_tick R83,
R84). -/

namespace Sys2Proof.Machine

theorem State.idle_eq_true {s : State} : s.idle = true ↔ s.sectorReady = false ∨ s.formatting = true := by
  simp [State.idle]

/-- 40_tick R77: the idle gate. -/
theorem execTick_idle {s : State} (hs : s.halted = false) (hi : s.idle = true) : execTick s = .next (s.emit false) := by
  rw [execTick, whenLive_of_live _ hs, if_pos hi]

/-- Settles O13: the idle gate's answer is the emission of `false`, which writes the trace alone. -/
theorem idleTickChangesOnlyTheTrace : Obligations.IdleTickChangesOnlyTheTrace :=
  fun _ hs hi => execTick_idle hs (State.idle_eq_true.2 hi)

/-! 40_tick R84 at the last bit of a byte: whether or not the sector ends with it, the stream goes to bit 7 of the next byte. -/

theorem State.advance_mask_lastBit {s : State} (h : s.mask = 0x01#8) : s.advance.mask = 0x80#8 := by
  by_cases hc : s.cursor + 1 = s.params.emitBytes
  · rw [State.advance_exhaust h hc]; rfl
  · rw [State.advance_reload h hc]; rfl

theorem State.advance_cursor_lastBit {s : State} (h : s.mask = 0x01#8) : s.advance.cursor = s.cursor + 1 := by
  by_cases hc : s.cursor + 1 = s.params.emitBytes
  · rw [State.advance_exhaust h hc]; rfl
  · rw [State.advance_reload h hc]; rfl

/-- 40_tick R81, R82: inside the cache one window goes out, of a valid cell's byte or of a free value, and then the stream
position moves. -/
theorem emitBit_inside {s : State} (hc : s.cursor < s.params.cacheBytes) :
    ∃ b u, (u = s ∨ u = s.countDraw) ∧ emitBit s = .next (State.emit b u).advance := by
  rcases emitBit_cases s with ⟨_, _, _, hv⟩ | ⟨_, _, hd⟩ | ⟨hge, _⟩
  · exact ⟨_, s, .inl rfl, hv⟩
  · exact ⟨_, s.countDraw, .inr rfl, hd⟩
  · exact absurd hc (Nat.not_lt.2 hge)

/-- 40_tick R79 to R85: an active TICK moves the stream position of a state that differs from the first by one more window,
and perhaps a counted draw. -/
theorem execTick_active_advances {s : State} (hp : s.params.Ok) (hs : s.halted = false) (hi : s.idle = false)
    (hc : s.cursor < s.params.emitBytes) :
    ∃ b u, execTick s = .next (State.advance u) ∧ u.trace = s.trace ++ [b] ∧ u.mask = s.mask ∧ u.cursor = s.cursor := by
  obtain ⟨_, hsize, _⟩ := hp
  obtain ⟨b, u, hu, hemit⟩ := emitBit_inside (Nat.lt_of_lt_of_le hc hsize)
  refine ⟨b, u.emit b, by rw [execTick_active hs hi hc, hemit], ?_⟩
  rcases hu with rfl | rfl
  · exact ⟨rfl, rfl, rfl⟩
  · exact ⟨rfl, rfl, rfl⟩

/-- Settles O16: before the last bit the move is a shift of the mask, whatever byte the window came from. -/
theorem activeTickShiftsTheMask : Obligations.ActiveTickShiftsTheMask := by
  intro s hp hs hr hf hc hm
  obtain ⟨b, u, htick, htrace, hmask, hcursor⟩ :=
    execTick_active_advances hp hs (State.idle_eq_false.2 ⟨hr, hf⟩) hc
  have hshift : u.advance = u.setMask (u.mask >>> 1) := State.advance_shift (by rwa [hmask])
  refine ⟨u.advance, b, htick, by rw [State.advance_trace, htrace], ?_, ?_⟩
  · rw [hshift, State.setMask_mask, hmask]
  · rw [hshift, State.setMask_cursor, hcursor]

/-- Settles O17: at the last bit the move is to bit 7 of the next byte, at most one past the sector's last. -/
theorem activeTickReloadsTheMaskAndAdvancesTheCursor : Obligations.ActiveTickReloadsTheMaskAndAdvancesTheCursor := by
  intro s hp hs hr hf hc hm
  obtain ⟨b, u, htick, htrace, hmask, hcursor⟩ :=
    execTick_active_advances hp hs (State.idle_eq_false.2 ⟨hr, hf⟩) hc
  have hlast : u.mask = 0x01#8 := hmask.trans hm
  have hnext : u.advance.cursor = s.cursor + 1 := by rw [State.advance_cursor_lastBit hlast, hcursor]
  exact ⟨u.advance, b, htick, by rw [State.advance_trace, htrace], State.advance_mask_lastBit hlast, hnext,
    hnext ▸ Nat.succ_le_of_lt hc⟩

end Sys2Proof.Machine
end

section
/-! PROOFS of the family 41_control: what the Controller's commands write in an unmarked state, and what they leave (41_control
R95, R98, R101, R104). With no mark set, `whenLive` lets the command's body answer, and the body is a chain of field writes. -/

namespace Sys2Proof.Machine

/-- Settles O31: the body of ENTER writes the two flags alone. -/
theorem enterSetsTheEntryFlags : Obligations.EnterSetsTheEntryFlags :=
  fun _ hs => whenLive_of_live _ hs

/-- Settles O33: the body of REARM is the rewind of the stream position and the write of `sectorReady`. -/
theorem rearmRewindsAndEnables : Obligations.RearmRewindsAndEnables :=
  fun _ hs => whenLive_of_live _ hs

/-- 41_control R101: with no mark set, EXIT rewinds, clears both flags and invalidates the cache. -/
theorem execExit_of_live {s : State} (hs : s.halted = false) :
    execExit s =
      .next (((s.rewind.setSectorReady false).setFormatting false).setCache Memory.invalidated) :=
  whenLive_of_live _ hs

/-- Settles O34: EXIT leaves the invalidated cache, in which every cell reads as invalid. -/
theorem exitRewindsClearsTheFlagsAndInvalidates : Obligations.ExitRewindsClearsTheFlagsAndInvalidates :=
  fun _ hs => ⟨_, execExit_of_live hs, Memory.read_invalidated, rfl⟩

/-- Settles O35: the body of SETFMT writes the hold alone. -/
theorem setfmtRaisesTheHold : Obligations.SetfmtRaisesTheHold :=
  fun _ hs => whenLive_of_live _ hs

end Sys2Proof.Machine
end

section
/-! PROOFS of the family 60_exceptions: with sizes inside their bounds every event answers a next state (60_exceptions R118). The
only stop in the model is an access past the end of the cache, and two checks keep it off: a TICK reads below `EMIT_BYTES`, which is
at most `CACHE_BYTES`, and a CWRITE outside the cache is refused before it writes. -/

namespace Sys2Proof.Machine

/-- 60_exceptions R122 to R124: under a mark the event answers the state it found, so only its body has to answer. -/
theorem whenLive_answers {s : State} {body : Host.Outcome State Fault Refusal} (hb : ∃ t, body = .next t) :
    ∃ t, whenLive s body = .next t := by
  cases hs : s.halted with
  | true => exact ⟨s, whenLive_of_halted body hs⟩
  | false => rwa [whenLive_of_live body hs]

/-- 40_tick R80: past the sector's last byte an active TICK records the fault. -/
theorem execTick_active_past {s : State} (hs : s.halted = false) (hi : s.idle = false)
    (hc : s.params.emitBytes ≤ s.cursor) : execTick s = .next (s.raise .cursorOutOfRange) := by
  simp [execTick, whenLive_of_live _ hs, hi, hc]

/-- A TICK reads the cache only at a cursor below `EMIT_BYTES`, which the bounds put inside the cache. -/
theorem execTick_answers {s : State} (hp : s.params.Ok) : ∃ t, execTick s = .next t := by
  cases hs : s.halted with
  | true => exact ⟨s, whenLive_of_halted _ hs⟩
  | false =>
    cases hi : s.idle with
    | true => exact ⟨_, execTick_idle hs hi⟩
    | false =>
      rcases Nat.lt_or_ge s.cursor s.params.emitBytes with hc | hc
      · obtain ⟨_, u, htick, _⟩ := execTick_active_advances hp hs hi hc
        exact ⟨u.advance, htick⟩
      · exact ⟨_, execTick_active_past hs hi hc⟩

/-- 41_control R110, R111: a CWRITE is refused exactly at the indices where its write would stop the model. -/
theorem execCwrite_answers (a : BitVec 16) (v : Byte) (s : State) : ∃ t, execCwrite a v s = .next t := by
  refine whenLive_answers ?_
  split
  case isTrue => exact ⟨_, rfl⟩
  case isFalse ha => exact ⟨_, landByte_inside v (Nat.lt_of_not_le ha)⟩

theorem exec_answers (i : Instr) {s : State} (hp : s.params.Ok) : ∃ t, exec i s = .next t := by
  cases i with
  | tick => exact execTick_answers hp
  | miss | enter | rearm | exit | setfmt | clrfmt | rdstat => exact whenLive_answers ⟨_, rfl⟩
  | cwrite a v => exact execCwrite_answers a v s

/-! What a step does with the waiting list (20_memory R53): one equation per answer of `fetch`. -/

theorem step_of_nil {s : State} (h : s.events = []) : step s = .next s := by
  rw [step, fetch_nil h, awaitEvent]

theorem step_of_decode_ok {s : State} {w : Word} {rest : List Word} {i : Instr} (h : s.events = w :: rest)
    (hd : decode w = .ok i) : step s = exec i (s.setEvents rest) := by
  rw [step, fetch_cons h, hd]

theorem step_of_decode_error {s : State} {w : Word} {rest : List Word} {r : RefusalReason} (h : s.events = w :: rest)
    (hd : decode w = .error r) : step s = refuseWord r (s.setEvents rest) := by
  rw [step, fetch_cons h, hd]

/-- Settles O6: no word waits, or a decoded event answers within the bounds, or a refused word only writes a mark. -/
theorem stepAlwaysHasANextState : Obligations.StepAlwaysHasANextState := by
  intro s hp
  cases hev : s.events with
  | nil => exact ⟨s, step_of_nil hev⟩
  | cons w rest =>
    cases hd : decode w with
    | ok i => rw [step_of_decode_ok hev hd]; exact exec_answers i hp
    | error r => rw [step_of_decode_error hev hd]; exact whenLive_answers ⟨_, rfl⟩

end Sys2Proof.Machine
end

section
/-! PROOFS of the family `other`: what a TICK and then every event keeps of the parameters, the stream position, `sector_ready`,
the trace and the marks (10_state sections 3 and 7, 30_encoding section 3, 41_control section 6). -/

namespace Sys2Proof.Machine

/-- 60_exceptions R122 to R124: under a mark an event answers the state it found. -/
theorem exec_of_halted (i : Instr) {s : State} (hs : s.halted = true) : exec i s = .next s := by
  cases i with
  | tick | miss | enter | rearm | exit | setfmt | clrfmt | rdstat | cwrite => exact whenLive_of_halted _ hs

@[simp] theorem State.advance_halted (s : State) : s.advance.halted = s.halted := by
  simp [State.halted]

/-! An emitted bit as one move of the stream position. -/

/-- 40_tick R81 to R85: an emitted bit adds a window, may count a draw, and moves the stream position. -/
theorem emitBit_next_advance {s t : State} (h : emitBit s = .next t) :
    ∃ b d, t = State.advance { s with trace := s.trace ++ [b], draws := d } := by
  obtain ⟨b, u, rfl | rfl, rfl⟩ := emitBit_next h
  · exact ⟨b, u.draws, rfl⟩
  · exact ⟨b, s.draws + 1, rfl⟩

/-- 40_tick R84, R85: the move of the stream position leaves a sector ready only where a byte is left to emit. -/
theorem State.advance_cursor_lt_of_ready {s : State} (hc : s.cursor < s.params.emitBytes)
    (hr : s.advance.sectorReady = true) : s.advance.cursor < s.params.emitBytes := by
  rcases s.advance_cases with ⟨_, h⟩ | ⟨_, hne, h⟩ | ⟨_, _, h⟩
  · rwa [h]
  · rw [h, State.setCursor_cursor]; omega
  · simp [h] at hr

theorem emitBit_next_params {s t : State} (h : emitBit s = .next t) : t.params = s.params := by
  obtain ⟨b, d, rfl⟩ := emitBit_next_advance h
  exact State.advance_params _

theorem emitBit_next_halted {s t : State} (h : emitBit s = .next t) : t.halted = s.halted := by
  obtain ⟨b, d, rfl⟩ := emitBit_next_advance h
  exact State.advance_halted _

theorem emitBit_next_trace {s t : State} (h : emitBit s = .next t) : ∃ b, t.trace = s.trace ++ [b] := by
  obtain ⟨b, d, rfl⟩ := emitBit_next_advance h
  exact ⟨b, State.advance_trace _⟩

theorem emitBit_next_cursor_lt_of_ready {s t : State} (h : emitBit s = .next t) (hc : s.cursor < s.params.emitBytes)
    (hr : t.sectorReady = true) : t.cursor < s.params.emitBytes := by
  obtain ⟨b, d, rfl⟩ := emitBit_next_advance h
  exact State.advance_cursor_lt_of_ready hc hr

/-! The parameters. -/

theorem execTick_next_params {s t : State} (h : execTick s = .next t) : t.params = s.params := by
  rcases execTick_next_cases h with ⟨_, rfl⟩ | ⟨_, _, rfl⟩ | ⟨_, _, _, rfl⟩ | ⟨_, _, _, hb⟩
  · rfl
  · rfl
  · rfl
  · exact emitBit_next_params hb

theorem execCwrite_next_params {a : BitVec 16} {v : Byte} {s t : State} (h : execCwrite a v s = .next t) :
    t.params = s.params := by
  rcases execCwrite_next_cases h with ⟨_, rfl⟩ | ⟨_, _, rfl⟩ | ⟨_, _, rfl⟩
  · rfl
  · rfl
  · rfl

/-- 00_scope R7: the parameters are arguments of the machine, which no event writes. -/
theorem exec_next_params {i : Instr} {s t : State} (h : exec i s = .next t) : t.params = s.params := by
  cases i with
  | tick => exact execTick_next_params h
  | miss => exact whenLive_update_keeps State.params h (by split <;> rfl)
  | enter => exact whenLive_update_keeps State.params h rfl
  | rearm => exact whenLive_update_keeps State.params h rfl
  | exit => exact whenLive_update_keeps State.params h rfl
  | setfmt => exact whenLive_update_keeps State.params h rfl
  | clrfmt => exact whenLive_update_keeps State.params h rfl
  | rdstat => exact whenLive_update_keeps State.params h rfl
  | cwrite a v => exact execCwrite_next_params h

/-! The stream position. -/

/-- The stream position of 10_state section 3, as the pair of cursor and mask. -/
def State.position (s : State) : Nat × Byte := (s.cursor, s.mask)

theorem State.position_eq_iff {s t : State} : t.position = s.position ↔ t.cursor = s.cursor ∧ t.mask = s.mask :=
  Prod.mk_inj

theorem execTick_next_position {s t : State} (h : execTick s = .next t) :
    t.position = s.position ∨ (s.idle = false ∧ s.cursor < s.params.emitBytes ∧ emitBit s = .next t) := by
  rcases execTick_next_cases h with ⟨_, rfl⟩ | ⟨_, _, rfl⟩ | ⟨_, _, _, rfl⟩ | ⟨_, hb⟩
  · exact .inl rfl
  · exact .inl rfl
  · exact .inl rfl
  · exact .inr hb

theorem execCwrite_next_position {a : BitVec 16} {v : Byte} {s t : State} (h : execCwrite a v s = .next t) :
    t.position = s.position := by
  rcases execCwrite_next_cases h with ⟨_, rfl⟩ | ⟨_, _, rfl⟩ | ⟨_, _, rfl⟩
  · rfl
  · rfl
  · rfl

/-- REARM and EXIT put the stream position back, unless a mark makes them change nothing. -/
theorem whenLive_rewind_position {s t u : State} (hu : u.position = (0, 0x80#8)) (h : whenLive s (.next u) = .next t) :
    t.position = s.position ∨ t.position = (0, 0x80#8) := by
  rcases whenLive_next_cases h with ⟨_, rfl⟩ | ⟨_, hb⟩
  · exact .inl rfl
  · cases hb; exact .inr hu

/-- 10_state section 3: an event keeps the stream position, or is a TICK that emits a bit, or puts the position back. -/
theorem exec_next_position {i : Instr} {s t : State} (h : exec i s = .next t) :
    t.position = s.position ∨
      (i = .tick ∧ s.idle = false ∧ s.cursor < s.params.emitBytes ∧ emitBit s = .next t) ∨
      ((i = .rearm ∨ i = .exit) ∧ t.position = (0, 0x80#8)) := by
  cases i with
  | tick => exact (execTick_next_position h).imp_right fun hb => .inl ⟨rfl, hb⟩
  | miss => exact .inl (whenLive_update_keeps State.position h (by split <;> rfl))
  | enter => exact .inl (whenLive_update_keeps State.position h rfl)
  | rearm => exact (whenLive_rewind_position rfl h).imp_right fun ht => .inr ⟨.inl rfl, ht⟩
  | exit => exact (whenLive_rewind_position rfl h).imp_right fun ht => .inr ⟨.inr rfl, ht⟩
  | setfmt => exact .inl (whenLive_update_keeps State.position h rfl)
  | clrfmt => exact .inl (whenLive_update_keeps State.position h rfl)
  | rdstat => exact .inl (whenLive_update_keeps State.position h rfl)
  | cwrite a v => exact .inl (execCwrite_next_position h)

/-- Settles O45: a TICK that emits a bit is an active one inside the sector, and the rewinds are REARM's and EXIT's. -/
theorem onlyActiveTicksAndRewindsMoveTheStream : Obligations.OnlyActiveTicksAndRewindsMoveTheStream := by
  intro i s t h
  rcases exec_next_position h with hp | ⟨hi, hidle, hc, _⟩ | ⟨hi, hp⟩
  · exact .inl (State.position_eq_iff.1 hp)
  · obtain ⟨hr, hf⟩ := State.idle_eq_false.1 hidle
    exact .inr (.inl ⟨hi, hr, hf, hc⟩)
  · exact .inr (.inr ⟨hi, Prod.mk_inj.1 hp⟩)

/-! `sector_ready`: what can make it true, and where the cursor then stands. -/

/-- Settles O47: beside ENTER and REARM only TICK and EXIT write the flag, and both only clear it. -/
theorem notReadyStaysUntilEnterOrRearm : Obligations.NotReadyStaysUntilEnterOrRearm := by
  intro i s t hs henter hrearm h
  by_cases hi : i ∈ [Instr.tick, .enter, .rearm, .exit]
  · simp only [List.mem_cons, henter, hrearm, false_or, List.not_mem_nil, or_false] at hi
    rcases hi with rfl | rfl
    · rcases execTick_next_sectorReady_cases h with ht | ⟨_, _, _, _, ht⟩
      · exact ht.trans hs
      · exact ht
    · rcases whenLive_next_cases h with ⟨_, rfl⟩ | ⟨_, hb⟩
      · exact hs
      · cases hb; rfl
  · exact (exec_next_sectorReady hi h).trans hs

theorem execRearm_next_cursor {s t : State} (h : execRearm s = .next t) : t = s ∨ t.cursor = 0 := by
  rcases whenLive_next_cases h with ⟨_, ht⟩ | ⟨_, hb⟩
  · exact .inl ht
  · cases hb; exact .inr rfl

/-- 10_state section 7: a ready sector has bytes left to emit, or the event kept its cursor and found it ready or was ENTER. -/
theorem exec_next_ready_cursor {i : Instr} {s t : State} (hp : s.params.Ok) (h : exec i s = .next t)
    (ht : t.sectorReady = true) :
    t.cursor < s.params.emitBytes ∨ (t.cursor = s.cursor ∧ (s.sectorReady = true ∨ i = .enter)) := by
  obtain ⟨hpos, _, _⟩ := hp
  by_cases hrearm : i = .rearm
  · subst hrearm
    rcases execRearm_next_cursor h with rfl | h0
    · exact .inr ⟨rfl, .inl ht⟩
    · exact .inl (by omega)
  have hready : s.sectorReady = true ∨ i = .enter := by
    by_contra hno
    obtain ⟨hs, henter⟩ := not_or.1 hno
    simp [notReadyStaysUntilEnterOrRearm i s t (Bool.eq_false_of_not_eq_true hs) henter hrearm h] at ht
  rcases exec_next_position h with hsame | ⟨_, _, hc, hb⟩ | ⟨_, hback⟩
  · exact .inr ⟨(State.position_eq_iff.1 hsame).1, hready⟩
  · exact .inl (emitBit_next_cursor_lt_of_ready hb hc ht)
  · have h0 : t.cursor = 0 := congrArg Prod.fst hback
    exact .inl (by omega)

/-- Settles O48: with the cursor at the end, the sector was ready before or the event was ENTER; the first is excluded. -/
theorem readyAtTheEndComesOnlyFromEnter : Obligations.ReadyAtTheEndComesOnlyFromEnter := by
  intro i s t hp h hbefore ⟨hready, hend⟩
  rw [exec_next_params h] at hend
  rcases exec_next_ready_cursor hp h hready with hlt | ⟨hc, hor⟩
  · omega
  · have hs : s.cursor = s.params.emitBytes := hc.symm.trans hend
    exact ⟨hor.resolve_left fun hr => hbefore ⟨hr, hs⟩, hs⟩

/-! The trace and the marks. -/

/-- 30_encoding R70: a TICK of an unmarked state appends one window, or faults and appends none. -/
theorem execTick_next_trace {s t : State} (hs : s.halted = false) (h : execTick s = .next t) :
    (t.halted = false ∧ ∃ b, t.trace = s.trace ++ [b]) ∨ (t.halted = true ∧ t.trace = s.trace) := by
  rcases execTick_next_cases h with ⟨hm, _⟩ | ⟨_, _, rfl⟩ | ⟨_, _, _, rfl⟩ | ⟨_, _, _, hb⟩
  · simp [hs] at hm
  · exact .inl ⟨hs, false, rfl⟩
  · exact .inr ⟨rfl, rfl⟩
  · exact .inl ⟨(emitBit_next_halted hb).trans hs, emitBit_next_trace hb⟩

theorem State.refuse_halted (r : RefusalReason) (s : State) : (s.refuse r).halted = true := by
  simp [State.halted]

/-- 40_tick R91: a MISS of an unmarked state appends one window, or is refused and appends none. -/
theorem execMiss_next_trace {s t : State} (hs : s.halted = false) (h : execMiss s = .next t) :
    (t.halted = false ∧ ∃ b, t.trace = s.trace ++ [b]) ∨ (t.halted = true ∧ t.trace = s.trace) := by
  rcases whenLive_next_cases h with ⟨hm, _⟩ | ⟨_, hb⟩
  · simp [hs] at hm
  · split at hb
    case isTrue => cases hb; exact .inl ⟨hs, false, rfl⟩
    case isFalse => cases hb; exact .inr ⟨s.refuse_halted _, rfl⟩

theorem execCwrite_next_trace {a : BitVec 16} {v : Byte} {s t : State} (h : execCwrite a v s = .next t) :
    t.trace = s.trace := by
  rcases execCwrite_next_cases h with ⟨_, rfl⟩ | ⟨_, _, rfl⟩ | ⟨_, _, rfl⟩
  · rfl
  · rfl
  · rfl

/-- 30_encoding R70: no event but TICK and MISS writes the trace. -/
theorem exec_next_trace {i : Instr} {s t : State} (hi : ¬ (i = .tick ∨ i = .miss)) (h : exec i s = .next t) :
    t.trace = s.trace := by
  cases i with
  | tick | miss => simp at hi
  | enter => exact whenLive_update_keeps State.trace h rfl
  | rearm => exact whenLive_update_keeps State.trace h rfl
  | exit => exact whenLive_update_keeps State.trace h rfl
  | setfmt => exact whenLive_update_keeps State.trace h rfl
  | clrfmt => exact whenLive_update_keeps State.trace h rfl
  | rdstat => exact whenLive_update_keeps State.trace h rfl
  | cwrite a v => exact execCwrite_next_trace h

/-- Settles O46: of the two events that write the trace each appends one window or leaves a mark. -/
theorem oneWindowPerTickOrMiss : Obligations.OneWindowPerTickOrMiss := by
  intro i s t hs h
  by_cases hi : i = .tick ∨ i = .miss
  · have htrace : (t.halted = false ∧ ∃ b, t.trace = s.trace ++ [b]) ∨ (t.halted = true ∧ t.trace = s.trace) := by
      rcases hi with rfl | rfl
      · exact execTick_next_trace hs h
      · exact execMiss_next_trace hs h
    rcases htrace with ⟨hlive, hone⟩ | ⟨hmarked, hnone⟩
    · rwa [if_pos ⟨hi, hlive⟩]
    · rwa [if_neg (by simp [hmarked])]
  · rw [if_neg fun hc => hi hc.1]
    exact exec_next_trace hi h

end Sys2Proof.Machine
end

section
/-! PROOFS of the family `other`: the invariant of 10_state section 7. It speaks of the parameters, the stream position and the
cache alone, so each event is followed through those three. -/

namespace Sys2Proof.Machine

/-- The invariant sees no field but the parameters, the stream position and the cache. -/
theorem Inv.of_eq {s t : State} (hs : Inv s) (hparams : t.params = s.params) (hpos : t.position = s.position)
    (hcache : t.cache = s.cache) : Inv t := by
  obtain ⟨hok, hmask, hle, hend, hwf, hwithin⟩ := hs
  obtain ⟨hcur, hm⟩ := State.position_eq_iff.1 hpos
  rw [← hparams] at hok hle hend hwithin
  rw [← hcur] at hle hend
  rw [← hm] at hmask hend
  rw [← hcache] at hwf hwithin
  exact ⟨hok, hmask, hle, hend, hwf, hwithin⟩

/-- 10_state R21: a mask that is not the last bit's is shifted to the next one-hot mask. -/
theorem shift_mem_oneHotMasks : ∀ m ∈ oneHotMasks, m ≠ 0x01#8 → m >>> 1 ∈ oneHotMasks := by decide

/-- 40_tick R83 to R85: the move of the stream position from a byte of the sector keeps the invariant. -/
theorem Inv.advance {s : State} (hs : Inv s) (hc : s.cursor < s.params.emitBytes) : Inv s.advance := by
  obtain ⟨hok, hmask, _, _, hwf, hwithin⟩ := hs
  rcases s.advance_cases with ⟨hm, h⟩ | ⟨_, _, h⟩ | ⟨_, _, h⟩
  · rw [h]
    exact ⟨hok, shift_mem_oneHotMasks _ hmask hm, hc.le, fun hend => absurd hend hc.ne, hwf, hwithin⟩
  · rw [h]
    exact ⟨hok, List.mem_cons_self, hc, fun _ => rfl, hwf, hwithin⟩
  · rw [h]
    exact ⟨hok, List.mem_cons_self, hc, fun _ => rfl, hwf, hwithin⟩

theorem Inv.emitBit {s t : State} (hs : Inv s) (hc : s.cursor < s.params.emitBytes) (h : emitBit s = .next t) :
    Inv t := by
  obtain ⟨b, d, rfl⟩ := emitBit_next_advance h
  exact Inv.advance (hs.of_eq rfl rfl rfl) hc

theorem Inv.rewind {s : State} (hs : Inv s) : Inv s.rewind := by
  obtain ⟨hok, _, _, _, hwf, hwithin⟩ := hs
  exact ⟨hok, List.mem_cons_self, Nat.zero_le _, fun _ => rfl, hwf, hwithin⟩

theorem Inv.setCache {s : State} {m : Memory} (hs : Inv s) (hwf : m.wf = true)
    (hwithin : m.within s.params.cacheBytes = true) : Inv (s.setCache m) :=
  ⟨hs.params_ok, hs.mask_oneHot, hs.cursor_le, hs.mask_at_end, hwf, hwithin⟩

/-- An event whose body answers a state with the invariant keeps it, marked state or not. -/
theorem Inv.whenLive {s t u : State} (hs : Inv s) (h : whenLive s (.next u) = .next t) (hu : Inv u) : Inv t := by
  rcases whenLive_next_cases h with ⟨_, rfl⟩ | ⟨_, hb⟩
  · exact hs
  · cases hb; exact hu

theorem Inv.execTick {s t : State} (hs : Inv s) (h : execTick s = .next t) : Inv t := by
  rcases execTick_next_position h with hp | ⟨_, hc, hb⟩
  · exact hs.of_eq (execTick_next_params h) hp (execTick_next_cache h)
  · exact hs.emitBit hc hb

/-- 20_memory R46: the byte of a CWRITE lands inside the cache, in the canonical form. -/
theorem Inv.execCwrite {a : BitVec 16} {v : Byte} {s t : State} (hs : Inv s) (h : execCwrite a v s = .next t) :
    Inv t := by
  rcases execCwrite_next_cases h with ⟨_, rfl⟩ | ⟨_, _, rfl⟩ | ⟨_, ha, rfl⟩
  · exact hs
  · exact hs.of_eq rfl rfl rfl
  · exact hs.setCache (Memory.wf_write _ v hs.cache_wf) (Memory.within_write v ha hs.cache_within)

theorem Inv.exec {i : Instr} {s t : State} (hs : Inv s) (h : exec i s = .next t) : Inv t := by
  cases i with
  | tick => exact hs.execTick h
  | miss => exact hs.whenLive h (hs.of_eq (by split <;> rfl) (by split <;> rfl) (by split <;> rfl))
  | enter => exact hs.whenLive h (hs.of_eq rfl rfl rfl)
  | rearm => exact hs.whenLive h (hs.rewind.of_eq rfl rfl rfl)
  | exit =>
    have hflags : Inv ((s.rewind.setSectorReady false).setFormatting false) := hs.rewind.of_eq rfl rfl rfl
    exact hs.whenLive h (hflags.setCache Memory.wf_invalidated (Memory.within_invalidated _))
  | setfmt => exact hs.whenLive h (hs.of_eq rfl rfl rfl)
  | clrfmt => exact hs.whenLive h (hs.of_eq rfl rfl rfl)
  | rdstat => exact hs.whenLive h (hs.of_eq rfl rfl rfl)
  | cwrite a v => exact hs.execCwrite h

/-- Settles O7: the step takes a word off the waiting list, which the invariant does not see, and then serves an event or
records a refusal. -/
theorem stepKeepsTheReachableForm : Obligations.StepKeepsTheReachableForm := by
  intro s t hs h
  cases hev : s.events with
  | nil => rw [step_of_nil hev] at h; cases h; exact hs
  | cons w rest =>
    have htaken : Inv (s.setEvents rest) := hs.of_eq rfl rfl rfl
    cases hd : decode w with
    | ok i => rw [step_of_decode_ok hev hd] at h; exact htaken.exec h
    | error r =>
      rw [step_of_decode_error hev hd] at h
      exact htaken.whenLive h (htaken.of_eq rfl rfl rfl)

/-! The state after reset. -/

/-- 00_scope R7: the open sizes are built so that they lie inside the bounds. -/
theorem Config.params_ok : Config.params.Ok := by
  have hroom : 0 < 65536 - Config.emitChoice % 65536 := by omega
  have hspare := Nat.mod_lt Config.spareChoice hroom
  simp only [Params.Ok, Config.params, Config.cacheBytes, Config.emitBytes]
  omega

/-- Settles O8: the cursor is 0, which no admitted `EMIT_BYTES` is, and the cache lists nothing. -/
theorem resetHasTheReachableForm : Obligations.ResetHasTheReachableForm :=
  ⟨Config.params_ok, List.mem_cons_self, Nat.zero_le _, fun _ => rfl, State.reset_cache_wf,
    Memory.within_invalidated _⟩

/-- Settles O1: the fields are read off `State.reset`, the bounds are those of the open parameters. -/
theorem resetHasThePowerOnValues : Obligations.ResetHasThePowerOnValues :=
  ⟨rfl, rfl, rfl, rfl, Memory.read_nil, rfl, rfl, rfl, rfl, Config.params_ok⟩

end Sys2Proof.Machine
end

section
/-! PROOFS of the family `other`: what the events take from the Sector Cache (20_memory sections 1 and 6). Each event is
followed on a state and on the same state with another cache. -/

namespace Sys2Proof.Machine

/-- The move of the stream position does not look at the cache. -/
theorem State.advance_setCache (m : Memory) (s : State) : (s.setCache m).advance = s.advance.setCache m := by
  rcases s.advance_cases with ⟨hm, h⟩ | ⟨hm, hc, h⟩ | ⟨hm, hc, h⟩
  · rw [h]; exact State.advance_shift (s := s.setCache m) hm
  · rw [h]; exact State.advance_reload (s := s.setCache m) hm hc
  · rw [h]; exact State.advance_exhaust (s := s.setCache m) hm hc

/-- An event whose body does not look at the cache answers alike over another cache, marked state or not. -/
theorem whenLive_setCache {s t u : State} (m : Memory) (h : whenLive s (.next u) = .next t) :
    whenLive (s.setCache m) (.next (u.setCache m)) = .next (t.setCache m) := by
  rcases whenLive_next_cases h with ⟨hs, rfl⟩ | ⟨hs, hb⟩
  · exact whenLive_of_halted _ hs
  · cases hb; exact whenLive_of_live _ hs

/-- 20_memory R45: an active TICK looks at the cell under the cursor only. -/
theorem emitBit_setCache {s t : State} {m : Memory} (hm : m.read s.cursor = s.cache.read s.cursor)
    (h : emitBit s = .next t) : emitBit (s.setCache m) = .next (t.setCache m) := by
  rcases emitBit_cases s with ⟨hin, v, hv, hs⟩ | ⟨hin, hn, hs⟩ | ⟨_, hs⟩
  · rw [hs] at h; cases h
    rw [← State.advance_setCache]
    exact emitBit_valid hin (hm.trans hv)
  · rw [hs] at h; cases h
    have hread : memRead s.cursor (s.setCache m) = .ok (Config.draw s.draws, (s.setCache m).countDraw) :=
      memRead_invalid hin (hm.trans hn)
    rw [← State.advance_setCache, emitBit, State.setCache_cursor, hread]
    rfl
  · rw [hs] at h; cases h

/-- 40_tick R77 to R81: a TICK looks at the cache only where it is active, and then at a cell of the sector. -/
theorem execTick_setCache {s t : State} {m : Memory}
    (hm : s.idle = false → s.cursor < s.params.emitBytes → m.read s.cursor = s.cache.read s.cursor)
    (h : execTick s = .next t) : execTick (s.setCache m) = .next (t.setCache m) := by
  rcases execTick_next_cases h with ⟨hs, rfl⟩ | ⟨hs, hi, rfl⟩ | ⟨hs, hi, hc, rfl⟩ | ⟨hs, hi, hc, hb⟩
  · exact whenLive_of_halted _ hs
  · exact execTick_idle (s := s.setCache m) hs hi
  · exact execTick_active_past (s := s.setCache m) hs hi hc
  · rw [execTick_active (s := s.setCache m) hs hi hc]
    exact emitBit_setCache (hm hi hc) hb

/-- Settles O22: an idle TICK does not come to the read. -/
theorem idleTickTakesNothingFromTheCache : Obligations.IdleTickTakesNothingFromTheCache := by
  intro s t m hidle h
  refine execTick_setCache (fun hactive _ => ?_) h
  rw [State.idle_eq_true.2 hidle] at hactive
  cases hactive

/-- Writes of one byte keep two caches alike below `n`. -/
theorem Memory.read_write_congr {m m' : Memory} {n : Nat} (a : Nat) (v : Byte)
    (hm : ∀ x, x < n → m.read x = m'.read x) :
    ∀ x, x < n → (m.write a v).read x = (m'.write a v).read x := by
  intro x hx
  by_cases hxa : x = a
  · subst hxa; simp
  · rw [Memory.read_write_other m v hxa, Memory.read_write_other m' v hxa, hm x hx]

/-- 41_control R111: a CWRITE outside the cache is refused. -/
theorem execCwrite_outside {a : BitVec 16} {s : State} (v : Byte) (hs : s.halted = false)
    (ha : s.params.cacheBytes ≤ a.toNat) : execCwrite a v s = .next (s.refuse .cacheIndexOutOfRange) := by
  rw [execCwrite, whenLive_of_live _ hs, cacheIndex_eq, if_pos ha]

/-- Settles O41: the refusal writes its mark and nothing else. -/
theorem cwriteOutsideTheCacheIsRefused : Obligations.CwriteOutsideTheCacheIsRefused :=
  fun _ _ v hs ha => execCwrite_outside v hs ha

/-- 20_memory R46: a CWRITE writes the same byte into either cache, or none. -/
theorem execCwrite_setCache {a : BitVec 16} {v : Byte} {s t : State} {m : Memory}
    (hm : ∀ x, x < s.params.emitBytes → m.read x = s.cache.read x) (h : execCwrite a v s = .next t) :
    ∃ m', execCwrite a v (s.setCache m) = .next (t.setCache m') ∧
      ∀ x, x < s.params.emitBytes → m'.read x = t.cache.read x := by
  rcases execCwrite_next_cases h with ⟨hs, rfl⟩ | ⟨hs, ha, rfl⟩ | ⟨hs, ha, rfl⟩
  · exact ⟨m, whenLive_of_halted _ hs, hm⟩
  · exact ⟨m, execCwrite_outside (s := s.setCache m) v hs ha, hm⟩
  · exact ⟨m.write a.toNat v, execCwrite_inside (s := s.setCache m) v hs ha, Memory.read_write_congr _ v hm⟩

/-- 41_control R101: EXIT invalidates either cache, unless a mark makes it change nothing. -/
theorem execExit_setCache {s t : State} {m : Memory} (hm : ∀ x, x < s.params.emitBytes → m.read x = s.cache.read x)
    (h : execExit s = .next t) :
    ∃ m', execExit (s.setCache m) = .next (t.setCache m') ∧
      ∀ x, x < s.params.emitBytes → m'.read x = t.cache.read x := by
  rcases whenLive_next_cases h with ⟨hs, rfl⟩ | ⟨hs, hb⟩
  · exact ⟨m, whenLive_of_halted _ hs, hm⟩
  · cases hb; exact ⟨Memory.invalidated, execExit_of_live (s := s.setCache m) hs, fun _ _ => rfl⟩

/-- 20_memory section 1: over two caches that agree on the sector's bytes every event answers alike, and the caches agree on
them again. -/
theorem exec_setCache {i : Instr} {s t : State} {m : Memory}
    (hm : ∀ x, x < s.params.emitBytes → m.read x = s.cache.read x) (h : exec i s = .next t) :
    ∃ m', exec i (s.setCache m) = .next (t.setCache m') ∧
      ∀ x, x < s.params.emitBytes → m'.read x = t.cache.read x := by
  by_cases hexit : i = .exit
  · subst hexit; exact execExit_setCache hm h
  by_cases hcwrite : ∃ a v, i = .cwrite a v
  · obtain ⟨a, v, rfl⟩ := hcwrite; exact execCwrite_setCache hm h
  have hcache : t.cache = s.cache :=
    (exec_next_cache (fun a v hi => hcwrite ⟨a, v, hi⟩) h).resolve_right fun hi => hexit hi.1
  refine ⟨m, ?_, hcache ▸ hm⟩
  cases i with
  | exit => exact absurd rfl hexit
  | cwrite a v => exact absurd ⟨a, v, rfl⟩ hcwrite
  | tick => exact execTick_setCache (fun _ hc => hm _ hc) h
  | miss =>
    have hbody := whenLive_setCache m h
    rw [apply_ite (State.setCache m)] at hbody
    exact hbody
  | enter | rearm | setfmt | clrfmt | rdstat => exact whenLive_setCache m h

/-- Settles O42: the next state over the other cache is the first one's with its cache replaced. -/
theorem bytesPastTheFieldAreNeverRead : Obligations.BytesPastTheFieldAreNeverRead := by
  intro i s t m hm h
  obtain ⟨m', hexec, hagree⟩ := exec_setCache hm h
  exact ⟨t.setCache m', hexec, rfl, hagree⟩

end Sys2Proof.Machine
end

section
/-! PROOFS of the family `other`: under the source's protocol no event faults or is refused (10_state section 7,
70_reset_and_hazards sections 1 and 3). -/

namespace Sys2Proof.Machine

/-! The marks. -/

theorem execMiss_next_halted {s t : State} (hs : s.halted = false) (ha : s.params.mayMissTicks = true)
    (h : execMiss s = .next t) : t.halted = false := by
  rw [execMiss, whenLive_of_live _ hs, if_pos ha] at h
  cases h; exact hs

theorem execTick_next_halted {s t : State} (hs : s.halted = false)
    (hc : s.idle = true ∨ s.cursor < s.params.emitBytes) (h : execTick s = .next t) : t.halted = false := by
  rcases execTick_next_cases h with ⟨_, rfl⟩ | ⟨_, _, rfl⟩ | ⟨_, hi, hge, _⟩ | ⟨_, _, _, hb⟩
  · exact hs
  · exact hs
  · rcases hc with hidle | hlt
    · simp [hi] at hidle
    · omega
  · exact (emitBit_next_halted hb).trans hs

theorem execCwrite_next_halted {a : BitVec 16} {v : Byte} {s t : State} (hs : s.halted = false)
    (ha : a.toNat < s.params.cacheBytes) (h : execCwrite a v s = .next t) : t.halted = false := by
  rw [execCwrite_inside v hs ha] at h
  cases h; exact hs

theorem admitted_miss_iff {p : Params} : Instr.admitted p .miss = true ↔ p.mayMissTicks = true := by
  simp [Instr.admitted, Instr.rejection]

theorem admitted_cwrite_iff {p : Params} {a : BitVec 16} {v : Byte} :
    Instr.admitted p (.cwrite a v) = true ↔ a.toNat < p.cacheBytes := by
  simp [Instr.admitted, Instr.rejection]

/-- 60_exceptions R121, R123: an admitted event leaves an unmarked state unmarked, unless it is an active TICK past the sector. -/
theorem exec_next_halted {i : Instr} {s t : State} (hs : s.halted = false) (ha : i.admitted s.params = true)
    (hc : i = .tick → s.idle = true ∨ s.cursor < s.params.emitBytes) (h : exec i s = .next t) :
    t.halted = false := by
  cases i with
  | tick => exact execTick_next_halted hs (hc rfl) h
  | miss => exact execMiss_next_halted hs (admitted_miss_iff.1 ha) h
  | enter | rearm | exit | setfmt | clrfmt | rdstat => exact (whenLive_update_keeps State.halted h rfl).trans hs
  | cwrite a v => exact execCwrite_next_halted hs (admitted_cwrite_iff.1 ha) h

/-! The Controller's condition. -/

/-- What both of the Controller's states keep: a ready sector has bytes left to emit. -/
theorem Controller.Keeps.cursor_lt {c : Controller} {s : State} (h : c.Keeps s) (hr : s.sectorReady = true) :
    s.cursor < s.params.emitBytes := by
  cases c with
  | idle => obtain ⟨hready, _⟩ := h; simp [hready] at hr
  | active => exact h hr

/-- 70_reset_and_hazards R142: ENTER comes only out of IDLE. -/
theorem Controller.next_enter {c c' : Controller} {s : State} (h : c.next .enter s = some c') : c = .idle := by
  cases c with
  | idle => rfl
  | active => simp [Controller.next] at h

/-- 70_reset_and_hazards R142: the Controller is in IDLE after EXIT, or after an event of IDLE that starts nothing. -/
theorem Controller.next_idle {c : Controller} {i : Instr} {s : State} (h : c.next i s = some .idle) :
    i = .exit ∨ (c = .idle ∧ i ≠ .enter ∧ i ≠ .rearm) := by
  cases i with
  | exit => exact .inl rfl
  | enter | rearm => cases c with
    | idle => simp [Controller.next] at h
    | active => simp [Controller.next] at h
  | tick | miss | setfmt | clrfmt | rdstat | cwrite => cases c with
    | idle => exact .inr ⟨rfl, by simp, by simp⟩
    | active => simp [Controller.next] at h

/-- 10_state R36: inside a session a sector is ready only with bytes left to emit, since ENTER finds the cursor at 0. -/
theorem Controller.Keeps.active_next {c : Controller} {i : Instr} {s t : State} (hp : s.params.Ok) (hk : c.Keeps s)
    (henter : i = .enter → c = .idle) (h : exec i s = .next t) : Controller.active.Keeps t := by
  intro hready
  rw [exec_next_params h]
  rcases exec_next_ready_cursor hp h hready with hlt | ⟨hc, hr | hi⟩
  · exact hlt
  · rw [hc]; exact hk.cursor_lt hr
  · obtain rfl := henter hi
    obtain ⟨_, hcur, _⟩ := hk
    obtain ⟨hpos, _, _⟩ := hp
    omega

/-- 10_state R36: outside a session no TICK is active, so no event moves the position from its reset values. -/
theorem Controller.Keeps.idle_next {i : Instr} {s t : State} (hk : Controller.idle.Keeps s) (henter : i ≠ .enter)
    (hrearm : i ≠ .rearm) (h : exec i s = .next t) : Controller.idle.Keeps t := by
  obtain ⟨hready, hcur, hmask⟩ := hk
  refine ⟨notReadyStaysUntilEnterOrRearm i s t hready henter hrearm h, ?_⟩
  rcases onlyActiveTicksAndRewindsMoveTheStream i s t h with ⟨hc, hm⟩ | ⟨_, hr, _⟩ | ⟨_, hback⟩
  · exact ⟨hc.trans hcur, hm.trans hmask⟩
  · simp [hready] at hr
  · exact hback

/-- 41_control R101: EXIT establishes what holds outside a session. -/
theorem Controller.idle_keeps_of_exit {s t : State} (hs : s.halted = false) (h : exec .exit s = .next t) :
    Controller.idle.Keeps t := by
  cases (execExit_of_live hs).symm.trans h
  exact ⟨rfl, rfl, rfl⟩

theorem Controller.Keeps.next {c c' : Controller} {i : Instr} {s t : State} (hp : s.params.Ok) (hs : s.halted = false)
    (hk : c.Keeps s) (hnext : c.next i s = some c') (h : exec i s = .next t) : c'.Keeps t := by
  cases c' with
  | active => exact hk.active_next hp (fun hi => Controller.next_enter (hi ▸ hnext)) h
  | idle =>
    rcases Controller.next_idle hnext with rfl | ⟨rfl, henter, hrearm⟩
    · exact Controller.idle_keeps_of_exit hs h
    · exact hk.idle_next henter hrearm h

/-- Settles O49: the condition keeps an active TICK inside the sector, admission keeps the refusals off, and the bounds give
the next state. -/
theorem protocolNeverFaults : Obligations.ProtocolNeverFaults := by
  intro c c' i s hp hs hk ha hnext
  obtain ⟨t, h⟩ := exec_answers i hp
  have hinside : s.idle = true ∨ s.cursor < s.params.emitBytes := by
    cases hi : s.idle with
    | true => exact .inl rfl
    | false =>
      obtain ⟨hr, _⟩ := State.idle_eq_false.1 hi
      exact .inr (hk.cursor_lt hr)
  exact ⟨t, h, exec_next_halted hs ha (fun _ => hinside) h, hk.next hp hs hnext h, exec_next_params h⟩

end Sys2Proof.Machine
end

section
/-! PROOFS of the family `other`: the event word (30_encoding sections 1 and 2). Decoding and encoding meet in one relation: the
fields of a word are those of an event. -/

namespace Sys2Proof

/-! The word from its fields. -/

theorem append_operands (w : Word) : addrField w ++ dataField w = operandField w :=
  BitVec.extractLsb'_append_extractLsb'_eq_extractLsb' rfl

/-- 30_encoding R63, R65: the operand bits are 0 when both operands are. -/
theorem operandField_eq_zero_iff (w : Word) : operandField w = 0#24 ↔ addrField w = 0#16 ∧ dataField w = 0#8 := by
  have haddr : (operandField w).extractLsb' 8 16 = addrField w := by
    rw [← append_operands, BitVec.extractLsb'_append_eq_left]
  have hdata : (operandField w).extractLsb' 0 8 = dataField w := by
    rw [← append_operands, BitVec.extractLsb'_append_eq_right]
  constructor
  · intro h
    rw [← haddr, ← hdata, h]
    exact ⟨rfl, rfl⟩
  · rintro ⟨ha, hd⟩
    rw [← append_operands, ha, hd]
    rfl

/-- 30_encoding R60: a word is its four fields, from the most significant down. -/
theorem append_fields (w : Word) : addrField w ++ dataField w ++ rsvField w ++ opField w = w := by
  have hrsv : operandField w ++ rsvField w = w.extractLsb' 4 28 :=
    BitVec.extractLsb'_append_extractLsb'_eq_extractLsb' rfl
  have hop : w.extractLsb' 4 28 ++ opField w = w.extractLsb' 0 32 :=
    BitVec.extractLsb'_append_extractLsb'_eq_extractLsb' rfl
  rw [append_operands, hrsv, hop, BitVec.extractLsb'_eq_self]

/-! The fields of a word as those of an event. -/

/-- The word holds the event's code and operands, and 0 in `rsv` (30_encoding R60 to R64). -/
def HasFields (w : Word) (i : Instr) : Prop :=
  opField w = i.code ∧ rsvField w = 0#4 ∧ dataField w = i.data ∧ addrField w = i.addr

theorem HasFields.eq_encode {w : Word} {i : Instr} (h : HasFields w i) : encode i = w := by
  obtain ⟨hop, hrsv, hdata, haddr⟩ := h
  rw [encode, ← hop, ← hrsv, ← hdata, ← haddr, append_fields]

theorem hasFields_encode (i : Instr) : HasFields (encode i) i := by
  cases i with
  | tick => exact Laws.Encoding.tick
  | miss => exact Laws.Encoding.miss
  | enter => exact Laws.Encoding.enter
  | rearm => exact Laws.Encoding.rearm
  | exit => exact Laws.Encoding.exit
  | setfmt => exact Laws.Encoding.setfmt
  | clrfmt => exact Laws.Encoding.clrfmt
  | rdstat => exact Laws.Encoding.rdstat
  | cwrite a v => exact Laws.Encoding.cwrite a v

/-- 30_encoding R65: the decoder reads the event from a word that holds its fields. -/
theorem HasFields.decode {w : Word} {i : Instr} (h : HasFields w i) : decode w = .ok i := by
  obtain ⟨hop, hrsv, hdata, haddr⟩ := h
  cases i with
  | tick | miss | enter | rearm | exit | setfmt | clrfmt | rdstat =>
    have hoperand : operandField w = 0#24 := (operandField_eq_zero_iff w).2 ⟨haddr, hdata⟩
    simp [Sys2Proof.decode, hop, hrsv, hoperand, Instr.code]
  | cwrite a v =>
    simp only [Instr.data, Instr.addr] at hdata haddr
    simp [Sys2Proof.decode, hop, hrsv, hdata, haddr, Instr.code]

/-- Settles O10: an encoded event holds its own fields. -/
theorem decodeOfEncodeIsTheEvent : Obligations.DecodeOfEncodeIsTheEvent :=
  fun i => (hasFields_encode i).decode

/-! The decoder's checks, in their order (30_encoding R65). -/

theorem decode_of_reservedOp {w : Word} (hop : 9 ≤ (opField w).toNat) : decode w = .error .reservedOp := by
  rw [decode, if_pos hop]

theorem decode_of_rsv {w : Word} (hop : (opField w).toNat < 9) (hrsv : rsvField w ≠ 0#4) :
    decode w = .error .reservedBits := by
  rw [decode, if_neg (Nat.not_le.2 hop), if_pos hrsv]

theorem decode_of_operand {w : Word} (hop : (opField w).toNat < 9) (hoperand : opField w ≠ 8#4 ∧ operandField w ≠ 0#24) :
    decode w = .error .reservedBits := by
  rw [decode, if_neg (Nat.not_le.2 hop), if_pos hoperand, ite_self]

/-- 30_encoding R61: the eight codes beside CWRITE's are those of the events with no operand. -/
theorem exists_instr_of_code : ∀ op : BitVec 4, op.toNat < 9 → op ≠ 8#4 →
    ∃ i ∈ [Instr.tick, .miss, .enter, .rearm, .exit, .setfmt, .clrfmt, .rdstat],
      op = i.code ∧ i.data = 0#8 ∧ i.addr = 0#16 := by decide

/-- 30_encoding R61: every code below 9 is an event's; the operands are CWRITE's, and 0 elsewhere. -/
theorem exists_hasFields {w : Word} (hop : (opField w).toNat < 9) (hrsv : rsvField w = 0#4)
    (hoperand : opField w = 8#4 ∨ operandField w = 0#24) : ∃ i, HasFields w i := by
  by_cases h8 : opField w = 8#4
  · exact ⟨.cwrite (addrField w) (dataField w), h8, hrsv, rfl, rfl⟩
  · obtain ⟨haddr, hdata⟩ := (operandField_eq_zero_iff w).1 (hoperand.resolve_left h8)
    obtain ⟨i, _, hcode, hd, ha⟩ := exists_instr_of_code _ hop h8
    exact ⟨i, hcode, hrsv, hdata.trans hd.symm, haddr.trans ha.symm⟩

/-- A word decodes to the event whose fields it holds, and to no other. -/
theorem decode_eq_ok_iff {w : Word} {i : Instr} : decode w = .ok i ↔ HasFields w i := by
  refine ⟨fun h => ?_, HasFields.decode⟩
  rcases Nat.lt_or_ge (opField w).toNat 9 with hop | hop
  · by_cases hrsv : rsvField w = 0#4
    · by_cases hoperand : opField w ≠ 8#4 ∧ operandField w ≠ 0#24
      · rw [decode_of_operand hop hoperand] at h; cases h
      · obtain ⟨j, hj⟩ := exists_hasFields hop hrsv (by tauto)
        rw [hj.decode] at h
        cases h; exact hj
    · rw [decode_of_rsv hop hrsv] at h; cases h
  · rw [decode_of_reservedOp hop] at h; cases h

/-- Settles O11: a word that decodes holds the event's fields, which are the whole word. -/
theorem encodeOfDecodeIsTheWord : Obligations.EncodeOfDecodeIsTheWord :=
  fun _ _ h => (decode_eq_ok_iff.1 h).eq_encode

/-- Settles O9: each word is decoded. -/
theorem sampleWordsDecode : Obligations.SampleWordsDecode := by
  unfold Obligations.SampleWordsDecode; decide

/-! The decoder with the machine's parameters. -/

theorem decodeFor_of_error {p : Params} {w : Word} {r : RefusalReason} (h : decode w = .error r) :
    decodeFor p w = .error r := by
  simp [decodeFor, h]

theorem decodeFor_of_rejection {p : Params} {w : Word} {i : Instr} {r : RefusalReason} (h : decode w = .ok i)
    (hr : i.rejection p = some r) : decodeFor p w = .error r := by
  simp [decodeFor, h, hr]

theorem decodeFor_of_admitted {p : Params} {w : Word} {i : Instr} (h : decode w = .ok i)
    (hr : i.rejection p = none) : decodeFor p w = .ok i := by
  simp [decodeFor, h, hr]

/-- 30_encoding R65: a refusal comes of decoding alone, or of the event's own check. -/
theorem decodeFor_error_cases {p : Params} {w : Word} {r : RefusalReason} (h : decodeFor p w = .error r) :
    decode w = .error r ∨ ∃ i, decode w = .ok i ∧ i.rejection p = some r := by
  cases hd : decode w with
  | error r' => rw [decodeFor_of_error hd] at h; cases h; exact .inl rfl
  | ok i =>
    cases hr : i.rejection p with
    | none => rw [decodeFor_of_admitted hd hr] at h; cases h
    | some r' => rw [decodeFor_of_rejection hd hr] at h; cases h; exact .inr ⟨i, rfl, hr⟩

/-! The fields as numbers. -/

theorem opField_toNat (w : Word) : (opField w).toNat = w.toNat % 16 := by
  simp [opField, BitVec.extractLsb'_toNat]

theorem rsvField_toNat (w : Word) : (rsvField w).toNat = w.toNat / 16 % 16 := by
  simp [rsvField, BitVec.extractLsb'_toNat, Nat.shiftRight_eq_div_pow]

theorem operandField_toNat (w : Word) : (operandField w).toNat = w.toNat / 256 := by
  have hw := w.isLt
  simp only [operandField, BitVec.extractLsb'_toNat, Nat.shiftRight_eq_div_pow]
  omega

theorem addrField_toNat (w : Word) : (addrField w).toNat = w.toNat / 65536 := by
  have hw := w.isLt
  simp only [addrField, BitVec.extractLsb'_toNat, Nat.shiftRight_eq_div_pow]
  omega

theorem rsvField_eq_zero_iff (w : Word) : rsvField w = 0#4 ↔ w.toNat / 16 % 16 = 0 := by
  rw [← BitVec.toNat_inj, rsvField_toNat]; rfl

theorem opField_eq_eight_iff (w : Word) : opField w = 8#4 ↔ w.toNat % 16 = 8 := by
  rw [← BitVec.toNat_inj, opField_toNat]; rfl

theorem opField_eq_one_iff (w : Word) : opField w = 1#4 ↔ w.toNat % 16 = 1 := by
  rw [← BitVec.toNat_inj, opField_toNat]; rfl

theorem operandField_eq_zero_iff_toNat (w : Word) : operandField w = 0#24 ↔ w.toNat / 256 = 0 := by
  rw [← BitVec.toNat_inj, operandField_toNat]; rfl

/-- 60_exceptions R123: the checks on the parameters, as they read from the fields of the event's word. -/
theorem HasFields.rejection {w : Word} {i : Instr} (h : HasFields w i) (p : Params) :
    i.rejection p =
      if opField w = 8#4 ∧ p.cacheBytes ≤ (addrField w).toNat then some .cacheIndexOutOfRange
      else if opField w = 1#4 ∧ p.mayMissTicks = false then some .missNotAdmitted
      else none := by
  obtain ⟨hop, _, _, haddr⟩ := h
  rw [hop, haddr]
  cases i with
  | cwrite a v =>
    by_cases ha : p.cacheBytes ≤ a.toNat
    · simp [Instr.rejection, Instr.code, Instr.addr, ha, Nat.not_lt.2 ha]
    · simp [Instr.rejection, Instr.code, Instr.addr, ha, Nat.lt_of_not_le ha]
  | miss => cases hm : p.mayMissTicks <;> simp [Instr.rejection, Instr.code, hm]
  | tick | enter | rearm | exit | setfmt | clrfmt | rdstat => simp [Instr.rejection, Instr.code]

/-- Settles O12: the first three checks are the decoder's own; past them the word holds an event's fields, and the last two
are that event's. -/
theorem decodeRefusesByTheFirstFailingCheck : Obligations.DecodeRefusesByTheFirstFailingCheck := by
  intro p w
  by_cases hop : 9 ≤ w.toNat % 16
  · rw [if_pos hop]
    exact decodeFor_of_error (decode_of_reservedOp (by rwa [opField_toNat]))
  rw [if_neg hop]
  have hop9 : (opField w).toNat < 9 := by rwa [opField_toNat, ← Nat.not_le]
  simp only [ne_eq, ← rsvField_eq_zero_iff, ← opField_eq_eight_iff, ← opField_eq_one_iff,
    ← operandField_eq_zero_iff_toNat, ← addrField_toNat]
  by_cases hrsv : rsvField w = 0#4
  case neg =>
    rw [if_pos hrsv]
    exact decodeFor_of_error (decode_of_rsv hop9 hrsv)
  rw [if_neg (not_not.2 hrsv)]
  by_cases hoperand : opField w ≠ 8#4 ∧ operandField w ≠ 0#24
  · rw [if_pos hoperand]
    exact decodeFor_of_error (decode_of_operand hop9 hoperand)
  rw [if_neg hoperand]
  obtain ⟨i, hi⟩ := exists_hasFields hop9 hrsv (by tauto)
  have hreject := hi.rejection p
  split_ifs with hindex hmiss
  · rw [if_pos hindex] at hreject
    exact decodeFor_of_rejection hi.decode hreject
  · rw [if_neg hindex, if_pos hmiss] at hreject
    exact decodeFor_of_rejection hi.decode hreject
  · rw [if_neg hindex, if_neg hmiss] at hreject
    exact ⟨i, decodeFor_of_admitted hi.decode hreject, by rw [Instr.admitted, hreject]; rfl⟩

end Sys2Proof

namespace Sys2Proof.Machine

/-! What a step does with a waiting word (60_exceptions section 2). -/

/-- Settles O2: decoding hands the event to `exec`. -/
theorem stepRunsTheDecodedEvent : Obligations.StepRunsTheDecodedEvent :=
  fun _ _ _ _ hev hd => step_of_decode_ok hev hd

/-- Settles O4: nothing is fetched. -/
theorem stepWithNoEventChangesNothing : Obligations.StepWithNoEventChangesNothing :=
  fun _ hev => step_of_nil hev

/-- 40_tick R91: a MISS that is not admitted is refused. -/
theorem execMiss_unadmitted {s : State} (hs : s.halted = false) (hm : s.params.mayMissTicks = false) :
    execMiss s = .next (s.refuse .missNotAdmitted) := by
  simp [execMiss, whenLive_of_live _ hs, hm]

/-- 60_exceptions R123: the two events with a check of their own raise the refusal that the check gives. -/
theorem exec_of_rejection {i : Instr} {s : State} {r : RefusalReason} (hs : s.halted = false)
    (hr : i.rejection s.params = some r) : exec i s = .next (s.refuse r) := by
  cases i with
  | tick | enter | rearm | exit | setfmt | clrfmt | rdstat => simp [Instr.rejection] at hr
  | miss =>
    rw [Instr.rejection, Option.ite_none_left_eq_some] at hr
    obtain ⟨hm, hr⟩ := hr
    cases hr
    exact execMiss_unadmitted hs (Bool.eq_false_of_not_eq_true hm)
  | cwrite a v =>
    rw [Instr.rejection, Option.ite_none_left_eq_some] at hr
    obtain ⟨ha, hr⟩ := hr
    cases hr
    exact execCwrite_outside v hs (Nat.le_of_not_lt ha)

/-- Settles O3: the decoder refuses the word, or the event it decodes to refuses itself; either way one mark is written. -/
theorem refusedWordSetsOnlyTheMark : Obligations.RefusedWordSetsOnlyTheMark := by
  intro s w rest r hs hev hd
  rcases decodeFor_error_cases hd with hbad | ⟨i, hok, hr⟩
  · rw [step_of_decode_error hev hbad]
    exact refuseWord_of_live (s := s.setEvents rest) r hs
  · rw [step_of_decode_ok hev hok]
    exact exec_of_rejection (s := s.setEvents rest) hs hr

/-- Settles O5: each event and each refusal is held by the mark, so a step only takes the word. -/
theorem markedStateIsQuiescent : Obligations.MarkedStateIsQuiescent := by
  refine fun s hs => ⟨fun i => exec_of_halted i hs, fun w rest hev => ?_⟩
  cases hd : decode w with
  | ok i =>
    rw [step_of_decode_ok hev hd]
    exact exec_of_halted (s := s.setEvents rest) i hs
  | error r =>
    rw [step_of_decode_error hev hd]
    exact refuseWord_of_halted (s := s.setEvents rest) r hs

/-- Settles O30: the refusal writes its mark and nothing else. -/
theorem unadmittedMissIsRefused : Obligations.UnadmittedMissIsRefused :=
  fun _ hs hm => execMiss_unadmitted hs hm

end Sys2Proof.Machine
end

section
/-! PROOFS of the family `other`: one active TICK (40_tick section 1, 10_state section 3). -/

namespace Sys2Proof.Machine

/-! Where the stream stands. -/

/-- The stream stands at bit `j` of the sector: `8 * cursor + k = j` with `mask = 0x80 >> k` (10_state section 3). -/
def State.AtBit (s : State) (j : Nat) : Prop := s.cursor = j / 8 ∧ s.mask = 0x80#8 >>> (j % 8)

theorem State.atBit_of_mask {s : State} {k : Nat} (hk : k < 8) (hm : s.mask = 0x80#8 >>> k) :
    s.AtBit (8 * s.cursor + k) := by
  refine ⟨by omega, ?_⟩
  rw [hm, Nat.mul_add_mod, Nat.mod_eq_of_lt hk]

/-- 10_state R21: of the shifted one-hot masks only the last is 0x01. -/
theorem shiftedMask_eq_one_iff : ∀ k, k < 8 → (0x80#8 >>> k = 0x01#8 ↔ k = 7) := by decide

theorem State.AtBit.mask_eq_one_iff {s : State} {j : Nat} (h : s.AtBit j) : s.mask = 0x01#8 ↔ j % 8 = 7 := by
  rw [h.2, shiftedMask_eq_one_iff _ (Nat.mod_lt j (by decide))]

/-- 40_tick R83, R84: the move of the stream position is by one bit. -/
theorem State.AtBit.advance {s : State} {j : Nat} (h : s.AtBit j) : s.advance.AtBit (j + 1) := by
  have hlast := h.mask_eq_one_iff
  obtain ⟨hcur, hmask⟩ := h
  by_cases hm : s.mask = 0x01#8
  · have hj := hlast.1 hm
    refine ⟨by rw [State.advance_cursor_lastBit hm, hcur]; omega, ?_⟩
    rw [State.advance_mask_lastBit hm, show (j + 1) % 8 = 0 by omega]
    rfl
  · have hj := mt hlast.2 hm
    rw [State.advance_shift hm]
    refine ⟨by rw [State.setMask_cursor, hcur]; omega, ?_⟩
    rw [State.setMask_mask, hmask, show (j + 1) % 8 = j % 8 + 1 by omega, BitVec.shiftRight_add]

/-- 40_tick R85 (D6): the move past the sector's last bit, and no other, clears `sector_ready`. -/
theorem State.advance_sectorReady_iff {s : State} (hr : s.sectorReady = true) :
    s.advance.sectorReady = false ↔ s.mask = 0x01#8 ∧ s.cursor + 1 = s.params.emitBytes := by
  rcases s.advance_cases with ⟨hm, h⟩ | ⟨_, hc, h⟩ | ⟨hm, hc, h⟩
  · simp [h, hr, hm]
  · simp [h, hr, hc]
  · simp [h, hm, hc]

/-- 40_tick R82 to R85: beside the stream position and `sector_ready` the move writes nothing. -/
theorem State.advance_frame (s : State) :
    s.advance = { s with mask := s.advance.mask, cursor := s.advance.cursor, sectorReady := s.advance.sectorReady } := by
  rcases s.advance_cases with ⟨_, h⟩ | ⟨_, _, h⟩ | ⟨_, _, h⟩
  · rw [h]; rfl
  · rw [h]; rfl
  · rw [h]; rfl

/-! The answer of an active TICK inside the sector. -/

/-- 40_tick R79 to R85: one window, perhaps a counted draw, and the move of the stream position. -/
theorem execTick_active_next {s : State} (hp : s.params.Ok) (hs : s.halted = false) (hi : s.idle = false)
    (hc : s.cursor < s.params.emitBytes) :
    ∃ b d, execTick s = .next (State.advance { s with trace := s.trace ++ [b], draws := d }) := by
  obtain ⟨_, hsize, _⟩ := hp
  obtain ⟨b, u, rfl | rfl, hemit⟩ := emitBit_inside (Nat.lt_of_lt_of_le hc hsize)
  · exact ⟨b, u.draws, (execTick_active hs hi hc).trans hemit⟩
  · exact ⟨b, s.draws + 1, (execTick_active hs hi hc).trans hemit⟩

/-- Settles O21: the TICK's move takes the stream from bit `8 * cursor + k` to the next. -/
theorem activeTickMovesTheStreamByOneBit : Obligations.ActiveTickMovesTheStreamByOneBit := by
  intro s k hp hs hr hf hc hk hm
  obtain ⟨b, d, htick⟩ := execTick_active_next hp hs (State.idle_eq_false.2 ⟨hr, hf⟩) hc
  have hat : State.AtBit { s with trace := s.trace ++ [b], draws := d } (8 * s.cursor + k) :=
    State.atBit_of_mask hk hm
  obtain ⟨hcur, hmask⟩ := hat.advance
  exact ⟨_, _, htick, Nat.mod_lt _ (by decide), hmask, by rw [hcur, Nat.div_add_mod]⟩

/-- Settles O18: the TICK's move clears the flag at the sector's last bit only. -/
theorem onlyTheLastBitClearsSectorReady : Obligations.OnlyTheLastBitClearsSectorReady := by
  intro s hp hs hr hf hc
  obtain ⟨b, d, htick⟩ := execTick_active_next hp hs (State.idle_eq_false.2 ⟨hr, hf⟩) hc
  exact ⟨_, htick, State.advance_sectorReady_iff hr⟩

/-- Settles O19: the window and the count are written first, and the move has a frame of its own. -/
theorem activeTickFrame : Obligations.ActiveTickFrame := by
  intro s hp hs hr hf hc
  obtain ⟨b, d, htick⟩ := execTick_active_next hp hs (State.idle_eq_false.2 ⟨hr, hf⟩) hc
  refine ⟨_, htick, fun a => by rw [State.advance_cache], ?_⟩
  rw [State.advance_trace, State.advance_draws]
  exact State.advance_frame _

/-- Settles O15: the read draws a free value, and the bit comes from it as from a byte. -/
theorem activeTickOnAnInvalidCellEmitsAFreeBit : Obligations.ActiveTickOnAnInvalidCellEmitsAFreeBit := by
  intro s ⟨_, hsize, _⟩ hs hr hf hc hn
  have hread : memRead s.cursor s = .ok (Config.draw s.draws, s.countDraw) :=
    memRead_invalid (Nat.lt_of_lt_of_le hc hsize) hn
  have htick : execTick s = .next (s.countDraw.emit (selectBit (Config.draw s.draws) s.mask)).advance := by
    rw [execTick_active hs (State.idle_eq_false.2 ⟨hr, hf⟩) hc, emitBit, hread]
    rfl
  refine ⟨_, htick, ?_, ?_⟩
  · rw [State.advance_trace, State.emit_trace, selectBit_eq_decide]; rfl
  · rw [State.advance_draws, State.emit_draws, State.countDraw_draws]

/-- Settles O20: past the sector the fault is recorded in place of the read. -/
theorem activeTickPastTheFieldRecordsTheFault : Obligations.ActiveTickPastTheFieldRecordsTheFault :=
  fun _ hs hr hf hc => execTick_active_past hs (State.idle_eq_false.2 ⟨hr, hf⟩) hc

/-- Settles O29: with the parameter set MISS emits `false`. -/
theorem admittedMissSendsAnEmptyWindow : Obligations.AdmittedMissSendsAnEmptyWindow := by
  intro s hs hm
  exact (whenLive_of_live _ hs).trans (by rw [if_pos hm]; rfl)

end Sys2Proof.Machine
end

section
/-! PROOFS of the family `other`: runs of events (20_memory R53), the idle gap and the formatting hold (40_tick section 1), and
the commands (41_control sections 2 to 6). -/

namespace Sys2Proof.Machine

/-! Runs. -/

theorem runEvents_cons {i : Instr} {s t : State} (is : List Instr) (h : exec i s = .next t) :
    runEvents (i :: is) s = runEvents is t := by
  rw [runEvents, h]

theorem runEvents_single {i : Instr} {s t : State} (h : exec i s = .next t) : runEvents [i] s = .next t :=
  runEvents_cons [] h

theorem runEvents_append {is : List Instr} {s t : State} (js : List Instr) (h : runEvents is s = .next t) :
    runEvents (is ++ js) s = runEvents js t := by
  induction is generalizing s with
  | nil => cases h; rfl
  | cons i is ih =>
    rw [runEvents] at h
    split at h
    case h_1 u hu => rw [List.cons_append, runEvents_cons _ hu, ih h]
    case h_2 => cases h
    case h_3 => cases h

/-- 40_tick R77: idle TICKs send idle windows and change nothing else, so each finds the state idle again. -/
theorem runEvents_ticks_idle (n : Nat) {s : State} (hs : s.halted = false) (hi : s.idle = true) :
    runEvents (List.replicate n .tick) s = .next { s with trace := s.trace ++ List.replicate n false } := by
  induction n generalizing s with
  | zero => rw [List.replicate_zero, List.replicate_zero, List.append_nil]; rfl
  | succ n ih =>
    rw [List.replicate_succ, runEvents_cons _ (idleTickChangesOnlyTheTrace s hs (State.idle_eq_true.1 hi)),
      ih (s := { s with trace := s.trace ++ [false] }) hs hi, List.append_assoc]
    rfl

/-- Settles O23: a sector that is not ready makes every TICK idle. -/
theorem idleGapSendsOnlyIdleWindows : Obligations.IdleGapSendsOnlyIdleWindows :=
  fun n _ hs hr => runEvents_ticks_idle n hs (State.idle_eq_true.2 (.inl hr))

/-- Settles O36: the body of CLRFMT writes the hold alone. -/
theorem clrfmtReleasesTheHold : Obligations.ClrfmtReleasesTheHold :=
  fun _ hs => whenLive_of_live _ hs

/-- Settles O27: SETFMT makes every TICK idle, and CLRFMT puts back the flag that SETFMT found. -/
theorem formattingHoldFreezesTheStream : Obligations.FormattingHoldFreezesTheStream := by
  intro n s hs hf
  have hticks : runEvents (List.replicate n .tick) { s with formatting := true } =
      .next { s with formatting := true, trace := s.trace ++ List.replicate n false } :=
    runEvents_ticks_idle n hs (State.idle_eq_true.2 (.inr rfl))
  have hclear : exec .clrfmt { s with formatting := true, trace := s.trace ++ List.replicate n false } =
      .next { s with formatting := false, trace := s.trace ++ List.replicate n false } :=
    clrfmtReleasesTheHold _ hs
  rw [runEvents_cons _ (setfmtRaisesTheHold s hs), runEvents_append _ hticks, runEvents_single hclear]
  simp only [hf]

/-! The commands. -/

/-- Settles O32: ENTER leaves the cursor at the end and opens the gate, so the TICK is active past the sector. -/
theorem enterAtTheEndMakesTheNextTickFault : Obligations.EnterAtTheEndMakesTheNextTickFault := by
  intro s hs hc
  rw [runEvents_cons _ (enterSetsTheEntryFlags s hs)]
  exact runEvents_single (activeTickPastTheFieldRecordsTheFault _ hs rfl rfl hc.ge)

/-- An event that writes a fixed value gives, from the state it answered, that state again, marked or not. -/
theorem whenLive_idempotent {f : State → State} (hf : ∀ s, f (f s) = f s) {s t : State}
    (h : whenLive s (.next (f s)) = .next t) : whenLive t (.next (f t)) = .next t := by
  rcases whenLive_next_cases h with ⟨hs, rfl⟩ | ⟨hs, hb⟩
  · exact h
  · cases hb
    rw [hf, whenLive, ite_self]

/-- Settles O39: each command writes constants. -/
theorem commandsAreIdempotent : Obligations.CommandsAreIdempotent := by
  intro i s t hi h
  simp only [List.mem_cons, List.not_mem_nil, or_false] at hi
  rcases hi with rfl | rfl | rfl | rfl | rfl
  · exact whenLive_idempotent (f := fun s => (s.setSectorReady true).setFormatting false) (fun _ => rfl) h
  · exact whenLive_idempotent (f := fun s => s.rewind.setSectorReady true) (fun _ => rfl) h
  · exact whenLive_idempotent
      (f := fun s => ((s.rewind.setSectorReady false).setFormatting false).setCache Memory.invalidated) (fun _ => rfl) h
  · exact whenLive_idempotent (f := State.setFormatting true) (fun _ => rfl) h
  · exact whenLive_idempotent (f := State.setFormatting false) (fun _ => rfl) h

/-! STATUS. -/

/-- A flag at bit `j` of a byte. -/
theorem getLsbD_flagBit (b : Bool) {j : Nat} (hj : j < 8) (k : Nat) :
    (if b then BitVec.twoPow 8 j else 0x00#8).getLsbD k = (b && decide (k = j)) := by
  cases b with
  | false => simp
  | true => simp [BitVec.getLsbD_twoPow, hj, eq_comm]

/-- Settles O38: `sector_ready` is the flag at bit 0 and `formatting` the flag at bit 1. -/
theorem statusBitsAreTheFlags : Obligations.StatusBitsAreTheFlags := by
  intro s k
  have hbits : s.status.getLsbD k = (s.formatting && decide (k = 1) || s.sectorReady && decide (k = 0)) := by
    rw [State.status, BitVec.getLsbD_or]
    exact congrArg₂ _ (getLsbD_flagBit s.formatting (j := 1) (by decide) k)
      (getLsbD_flagBit s.sectorReady (j := 0) (by decide) k)
  rw [hbits]
  by_cases h0 : k = 0
  · simp [h0]
  · simp [h0, Bool.and_comm]

/-- Settles O37: RDSTAT appends STATUS, which has one value for each pair of flags. -/
theorem rdstatReturnsTheFlags : Obligations.RdstatReturnsTheFlags := by
  intro s hs
  refine (whenLive_of_live _ hs).trans ?_
  rw [State.answer, State.statusWord, State.status]
  cases s.formatting <;> cases s.sectorReady <;> rfl

end Sys2Proof.Machine
end

section
/-! PROOFS of the family `other`: the stream of a sector (40_tick section 1): REARM puts the stream at bit 0, and each TICK from
there sends the bit it stands at and moves to the next. -/

namespace Sys2Proof.Machine

/-! The windows of a sector and the receiver. -/

theorem getElem?_byteWindows (v : Byte) : ∀ k, k < 8 → (byteWindows v)[k]? = some (v.getLsbD (7 - k)) := by
  intro k hk
  interval_cases k <;> rfl

theorem sectorWindows_cons (v : Byte) (bs : List Byte) :
    sectorWindows (v :: bs) = byteWindows v ++ sectorWindows bs := rfl

/-- 30_encoding R68: window `k` of a sector is bit `7 - k mod 8` of byte `k / 8`. -/
theorem getElem?_sectorWindows (bs : List Byte) (k : Nat) :
    (sectorWindows bs)[k]? = bs[k / 8]?.map fun v => v.getLsbD (7 - k % 8) := by
  induction bs generalizing k with
  | nil => rfl
  | cons v bs ih =>
    rw [sectorWindows_cons]
    rcases Nat.lt_or_ge k 8 with hk | hk
    · rw [List.getElem?_append_left hk, getElem?_byteWindows v k hk, Nat.div_eq_of_lt hk, Nat.mod_eq_of_lt hk]
      rfl
    · obtain ⟨n, rfl⟩ := Nat.exists_eq_add_of_le' hk
      rw [List.getElem?_append_right (Nat.le_add_left 8 n), show n + 8 - (byteWindows v).length = n from rfl, ih,
        Nat.add_div_right n (by decide), Nat.add_mod_right, List.getElem?_cons_succ]

theorem windowsByte_bits (v : Byte) :
    windowsByte (v.getLsbD 7) (v.getLsbD 6) (v.getLsbD 5) (v.getLsbD 4) (v.getLsbD 3) (v.getLsbD 2) (v.getLsbD 1)
      (v.getLsbD 0) = v := by
  refine BitVec.eq_of_getLsbD_eq fun k hk => ?_
  rw [windowsByte, BitVec.getLsbD_ofBoolListBE]
  interval_cases k <;> rfl

/-- 40_tick R88: the receiver undoes the emission of a sector. -/
theorem receive_sectorWindows (bs : List Byte) : receive (sectorWindows bs) = bs := by
  induction bs with
  | nil => rfl
  | cons v bs ih =>
    have hbyte : receive (byteWindows v ++ sectorWindows bs) =
        windowsByte (v.getLsbD 7) (v.getLsbD 6) (v.getLsbD 5) (v.getLsbD 4) (v.getLsbD 3) (v.getLsbD 2) (v.getLsbD 1)
          (v.getLsbD 0) :: receive (sectorWindows bs) := rfl
    rw [sectorWindows_cons, hbyte, windowsByte_bits, ih]

/-! The state after some windows of a sector. -/

/-- 40_tick R85: a sector is ready after the move exactly while bits are left. -/
theorem State.AtBit.advance_sectorReady {s : State} {j : Nat} (h : s.AtBit j) (hr : s.sectorReady = true)
    (hj : j < 8 * s.params.emitBytes) : s.advance.sectorReady = decide (j + 1 < 8 * s.params.emitBytes) := by
  have hclears := State.advance_sectorReady_iff hr
  rw [h.mask_eq_one_iff, h.1] at hclears
  by_cases hend : j + 1 < 8 * s.params.emitBytes
  · rw [decide_eq_true hend]
    exact Bool.eq_true_of_not_eq_false fun hf => by have := hclears.1 hf; omega
  · rw [decide_eq_false hend]
    exact hclears.2 (by omega)

/-- 40_tick R79 to R82: where the stream stands at bit `j`, over a valid cell the window is that bit of its byte. -/
theorem execTick_active_next_bit {s : State} {j : Nat} (hp : s.params.Ok) (hs : s.halted = false)
    (hr : s.sectorReady = true) (hf : s.formatting = false) (hc : s.cursor < s.params.emitBytes) (hat : s.AtBit j) :
    ∃ b d, execTick s = .next (State.advance { s with trace := s.trace ++ [b], draws := d }) ∧
      ∀ v, s.cache.read s.cursor = some v → b = v.getLsbD (7 - j % 8) := by
  obtain ⟨b, d, htick⟩ := execTick_active_next hp hs (State.idle_eq_false.2 ⟨hr, hf⟩) hc
  obtain ⟨_, hmask⟩ := hat
  refine ⟨b, d, htick, fun v hv => ?_⟩
  obtain ⟨u, hu, _, hwindow⟩ := activeTickEmitsTheBitUnderTheMask s v hp hs hr hf hc hv
  cases htick.symm.trans hu
  have htrace := hwindow _ (Nat.mod_lt _ (by decide)) hmask
  rw [State.advance_trace] at htrace
  simpa using htrace

/-- From the start of the sector that `s` holds, exactly the windows `ws` have been sent, and the stream stands after them. -/
structure Sent (s : State) (ws : List Bool) (t : State) : Prop where
  params : t.params = s.params
  cache : t.cache = s.cache
  live : t.halted = false
  formatting : t.formatting = false
  atBit : t.AtBit ws.length
  ready : t.sectorReady = decide (ws.length < 8 * s.params.emitBytes)
  trace : t.trace = s.trace ++ ws
  bits : ∀ k v, k < ws.length → s.cache.read (k / 8) = some v → ws[k]? = some (v.getLsbD (7 - k % 8))

/-- 41_control R98: REARM starts the sector. -/
theorem sent_rearm {s : State} (hp : s.params.Ok) (hs : s.halted = false) (hf : s.formatting = false) :
    Sent s [] (s.rewind.setSectorReady true) where
  params := rfl
  cache := rfl
  live := hs
  formatting := hf
  atBit := ⟨rfl, rfl⟩
  ready := (decide_eq_true (Nat.mul_pos (by decide) hp.1)).symm
  trace := (List.append_nil _).symm
  bits := fun _ _ hk => absurd hk (Nat.not_lt_zero _)

/-- 40_tick R79 to R85: while bits are left a TICK sends the next window. -/
theorem Sent.tick {s t : State} {ws : List Bool} (hp : s.params.Ok) (h : Sent s ws t)
    (hleft : ws.length < 8 * s.params.emitBytes) :
    ∃ b u, exec .tick t = .next u ∧ Sent s (ws ++ [b]) u := by
  have hpt : t.params.Ok := h.params ▸ hp
  have hr : t.sectorReady = true := h.ready.trans (decide_eq_true hleft)
  obtain ⟨hcur, _⟩ := h.atBit
  have hc : t.cursor < t.params.emitBytes := by rw [hcur, h.params]; omega
  obtain ⟨b, d, htick, hbit⟩ := execTick_active_next_bit hpt h.live hr h.formatting hc h.atBit
  rw [hcur, h.cache] at hbit
  have hat : State.AtBit { t with trace := t.trace ++ [b], draws := d } ws.length := h.atBit
  have hlen : (ws ++ [b]).length = ws.length + 1 := List.length_append
  refine ⟨b, _, htick, ?_⟩
  constructor
  case params => rw [State.advance_params, h.params]
  case cache => rw [State.advance_cache, h.cache]
  case live => rw [State.advance_halted]; exact h.live
  case formatting => rw [State.advance_formatting, h.formatting]
  case atBit => rw [hlen]; exact hat.advance
  case ready =>
    rw [hlen, ← h.params]
    exact hat.advance_sectorReady hr (h.params ▸ hleft)
  case trace => rw [State.advance_trace, h.trace, List.append_assoc]
  case bits =>
    intro k v hk hv
    rcases Nat.lt_or_ge k ws.length with hold | hnew
    · rw [List.getElem?_append_left hold, h.bits k v hold hv]
    · obtain rfl : k = ws.length := by omega
      rw [List.getElem?_concat_length, hbit v hv]

/-- 40_tick section 1: REARM and at most a sector's TICKs run through, and have sent one window for each TICK. -/
theorem runEvents_rearm_ticks {s : State} (hp : s.params.Ok) (hs : s.halted = false) (hf : s.formatting = false)
    (j : Nat) (hj : j ≤ 8 * s.params.emitBytes) :
    ∃ ws t, runEvents (.rearm :: List.replicate j .tick) s = .next t ∧ ws.length = j ∧ Sent s ws t := by
  induction j with
  | zero => exact ⟨[], _, runEvents_single (rearmRewindsAndEnables s hs), rfl, sent_rearm hp hs hf⟩
  | succ j ih =>
    obtain ⟨ws, t, hrun, hlen, hsent⟩ := ih (Nat.le_of_succ_le hj)
    obtain ⟨b, u, htick, hsent'⟩ := hsent.tick hp (by omega)
    refine ⟨ws ++ [b], u, ?_, by rw [List.length_append, hlen]; rfl, hsent'⟩
    rw [List.replicate_succ', ← List.cons_append, runEvents_append _ hrun, runEvents_single htick]

/-- Settles O25: the stream stands after the windows sent, one for each TICK. -/
theorem ticksAfterRearmStandAtTheirBit : Obligations.TicksAfterRearmStandAtTheirBit := by
  intro s j hp hs hf hj
  obtain ⟨ws, t, hrun, rfl, hsent⟩ := runEvents_rearm_ticks hp hs hf j hj
  obtain ⟨hcur, hmask⟩ := hsent.atBit
  obtain ⟨hfault, _⟩ := State.halted_eq_false.1 hsent.live
  exact ⟨t, hrun, hcur, hmask, hsent.ready, by rw [hsent.trace, List.length_append], hfault⟩

/-- 30_encoding R68: over valid bytes the windows sent for a whole sector are those of its bytes. -/
theorem Sent.eq_sectorWindows {s t : State} {ws : List Bool} {bs : List Byte} (h : Sent s ws t)
    (hlen : ws.length = 8 * bs.length) (hload : ∀ a, a < bs.length → s.cache.read a = bs[a]?) :
    ws = sectorWindows bs := by
  refine List.ext_getElem? fun k => ?_
  rw [getElem?_sectorWindows]
  rcases Nat.lt_or_ge k ws.length with hk | hk
  · have hbyte : k / 8 < bs.length := by omega
    have hread := hload _ hbyte
    rw [List.getElem?_eq_getElem hbyte] at hread ⊢
    exact h.bits k _ hk hread
  · rw [List.getElem?_eq_none hk, List.getElem?_eq_none (by omega), Option.map_none]

/-- Settles O24: a whole sector's TICKs have sent the windows of its bytes. -/
theorem sectorIsSentByteByByteMsbFirst : Obligations.SectorIsSentByteByByteMsbFirst := by
  intro s bs hp hs hf hlen hload
  obtain ⟨ws, t, hrun, hws, hsent⟩ := runEvents_rearm_ticks hp hs hf _ le_rfl
  rw [← hlen] at hws hload
  exact ⟨t, hrun, by rw [hsent.trace, hsent.eq_sectorWindows hws hload]⟩

/-- Settles O26: what the TICKs append are the bytes' windows, which the receiver groups back. -/
theorem receiverRecoversTheSector : Obligations.ReceiverRecoversTheSector := by
  intro s bs hp hs hf hlen hload
  obtain ⟨t, hrun, htrace⟩ := sectorIsSentByteByByteMsbFirst s bs hp hs hf hlen hload
  exact ⟨t, hrun, by rw [htrace, List.drop_left, receive_sectorWindows]⟩

end Sys2Proof.Machine
end

section
/-! PROOFS of the family `other`: CWRITEs and the stream: a byte written under the cursor (20_memory section 4), and REFRESH, a
sector's CWRITEs and a REARM (30_encoding section 4, 41_control section 8). -/

namespace Sys2Proof.Machine

/-- Settles O28: the CWRITE makes the cell under the cursor valid with `v`, and the TICK reads that cell. -/
theorem writeUnderTheCursorIsSeenByTheNextTick : Obligations.WriteUnderTheCursorIsSeenByTheNextTick := by
  intro s a v hp hs hr hf hc ha
  have hin : a.toNat < s.params.cacheBytes := by obtain ⟨_, hsize, _⟩ := hp; omega
  have hwrite : exec (.cwrite a v) s = .next (s.setCache (s.cache.write a.toNat v)) := execCwrite_inside v hs hin
  have hcell : (s.setCache (s.cache.write a.toNat v)).cache.read s.cursor = some v :=
    ha ▸ Memory.read_write_same s.cache a.toNat v
  obtain ⟨t, htick, htrace, _⟩ :=
    activeTickEmitsTheBitUnderTheMask (s.setCache (s.cache.write a.toNat v)) v hp hs hr hf hc hcell
  exact ⟨t, by rw [runEvents_cons _ hwrite, runEvents_single htick], htrace⟩

/-! A list of bytes written from an index on. -/

/-- The cache after the bytes are written at `a`, `a + 1`, and so on: what the CWRITEs of `loadEvents` leave. -/
def Memory.load : Memory → Nat → List Byte → Memory
  | m, _, [] => m
  | m, a, v :: vs => Memory.load (m.write a v) (a + 1) vs

theorem Memory.read_load_outside (m : Memory) (a : Nat) (bs : List Byte) {x : Nat} (hx : x < a ∨ a + bs.length ≤ x) :
    (m.load a bs).read x = m.read x := by
  induction bs generalizing m a with
  | nil => rfl
  | cons v vs ih =>
    rw [List.length_cons] at hx
    rw [Memory.load, ih _ _ (by omega), Memory.read_write_other m v (by omega)]

theorem Memory.read_load_inside (m : Memory) (a : Nat) (bs : List Byte) {k : Nat} (hk : k < bs.length) :
    (m.load a bs).read (a + k) = bs[k]? := by
  induction bs generalizing m a k with
  | nil => exact absurd hk (Nat.not_lt_zero k)
  | cons v vs ih =>
    cases k with
    | zero => rw [Memory.load, Memory.read_load_outside _ _ _ (by omega), Nat.add_zero, Memory.read_write_same]; rfl
    | succ k =>
      rw [Memory.load, ← Nat.add_assoc, Nat.add_right_comm, ih _ _ (Nat.lt_of_succ_lt_succ hk),
        List.getElem?_cons_succ]

/-- 30_encoding R73: LOAD stands for CWRITEs that run through and write its bytes, where the cache has room for them. -/
theorem runEvents_loadEvents {a : Nat} {bs : List Byte} {s : State} (hs : s.halted = false)
    (hroom : a + bs.length ≤ s.params.cacheBytes) (hsize : s.params.cacheBytes ≤ 65536) :
    ∃ is, loadEvents a bs = some is ∧ runEvents is s = .next (s.setCache (s.cache.load a bs)) := by
  induction bs generalizing a s with
  | nil => exact ⟨[], rfl, rfl⟩
  | cons v vs ih =>
    rw [List.length_cons] at hroom
    have ha : a < 65536 := by omega
    have hindex : (BitVec.ofNat 16 a).toNat = a := Nat.mod_eq_of_lt ha
    have hwrite : exec (.cwrite (BitVec.ofNat 16 a) v) s = .next (s.setCache (s.cache.write a v)) :=
      (execCwrite_inside v hs (by omega)).trans (by rw [hindex])
    obtain ⟨is, hload, hrun⟩ :=
      ih (a := a + 1) (s := s.setCache (s.cache.write a v)) hs (by rw [State.setCache_params]; omega) hsize
    refine ⟨.cwrite (BitVec.ofNat 16 a) v :: is, ?_, ?_⟩
    · rw [loadEvents, if_pos ha, hload, Option.map_some]
    · rw [runEvents_cons _ hwrite, hrun]; rfl

/-- Settles O43: the CWRITEs load the bytes from index 0 on and leave the cells past them, and REARM rewinds. -/
theorem refreshLoadsTheSectorAndRearms : Obligations.RefreshLoadsTheSectorAndRearms := by
  intro s bs ⟨_, hemit, hsize⟩ hs hlen
  obtain ⟨is, hload, hrun⟩ := runEvents_loadEvents (a := 0) (bs := bs) hs (by omega) hsize
  refine ⟨is ++ [.rearm], (s.setCache (s.cache.load 0 bs)).rewind.setSectorReady true, ?_, ?_, fun a ha => ?_,
    fun a ha => ?_, rfl⟩
  · rw [AsmLine.expand, if_pos hlen, hload, Option.map_some]
  · rw [runEvents_append _ hrun]
    exact runEvents_single (rearmRewindsAndEnables (s.setCache (s.cache.load 0 bs)) hs)
  · simpa using s.cache.read_load_inside 0 bs (hlen ▸ ha)
  · exact s.cache.read_load_outside 0 bs (.inr (by omega))

end Sys2Proof.Machine
end
